-- ==== Sys2Proof/Word.lean ====
section
/-! DEFINITION. The words of MPTX-CORE: bytes, channel registers, channel codes, command words, and the two byte
buffers. Widths: 00_scope rules R7, R9. -/

namespace Sys2Proof

/-- A byte of a payload or a frame (R10). -/
abbrev Byte := BitVec 8

/-- The content of a channel register: `PULSE_W` = 16 bits, two's complement (R20). -/
abbrev Pulse := BitVec 16

/-- A ChannelCode: `CODE_W` = 11 bits, unsigned (R7, R110). -/
abbrev ChannelCode := BitVec 11

/-- A command word (R88); also the four header bytes of a frame read as one number (R85). -/
abbrev CmdWord := BitVec 32

/-- The ChannelSet `CH[0..15]` (R20). -/
abbrev ChannelSet := Vector Pulse 16

/-- The PackedPayload (R51). -/
abbrev Payload := Vector Byte 22

/-- A frame: 26 bytes, byte 0 first (R52, R80). -/
abbrev Frame := Vector Byte 26

end Sys2Proof
end

