-- ==== Sys2Proof/Config.lean ====
section
/-! DEFINITION. What an implementation fixes (the OPEN parameters of 00_scope rule R9) and the free values the spec
leaves open. The constants the spec gives a value stand in Sys2Proof/Machine/Constants.lean. -/

namespace Sys2Proof

/-- The parameters the spec makes arguments of the model (R8, R9, U12 to U15). They are plain data, carried by the
state unchanged, so that every statement about a state speaks of every value of them (log entry 1). -/
structure Params where
  /-- `PROTO_SET`, the legal protocol identifiers (R8). -/
  protoSet : List (BitVec 7)
  /-- `STREAM_PERIOD_MS`, the period of automatic control frames (R9). -/
  streamPeriodMs : BitVec 7
  /-- `CH_RESET`, the reset value of every channel register (R9). -/
  chReset : Pulse
  /-- `PRIME_ALWAYS`, whether the priming burst runs when bind is skipped (R9). -/
  primeAlways : Bool
  deriving DecidableEq, Repr

/-- The constraint R8 and R9 put on the parameters: three distinct identifiers of 7 bits, a period of 1 to 70 ms. -/
abbrev Params.Legal (p : Params) : Prop :=
  p.protoSet.length = 3 ∧ p.protoSet.Nodup ∧ 1 ≤ p.streamPeriodMs.toNat ∧ p.streamPeriodMs.toNat ≤ 70

/-- The codec's working buffers whose contents between emissions the spec leaves at any value (R33, U5). -/
structure WorkBuffers where
  /-- `OUTPOS`, bytes already written to `PAYLOAD`. -/
  outpos : BitVec 5
  /-- `PAYLOAD[0..21]`. -/
  payload : Payload
  /-- `FRAME[0..25]`. -/
  frame : Frame
  deriving DecidableEq, Repr, Inhabited

/-- FREE VALUE (U5, log entry 5): what the working buffers hold after the `n`-th emission. No body: nothing can be
proved of it. -/
opaque Config.freeBuffers : Nat → WorkBuffers

end Sys2Proof
end

