-- ==== Sys2Proof/Syntax.lean ====
section
/-! DEFINITION. The instructions: one constructor per row of spec/opcode_table.json. The ten commands are
30_encoding rule R89; the four frame rows are the internal operations of 41_frame_builder rules R131 to R134, which
no command word encodes (R97). -/

namespace Sys2Proof

/-- One constructor per row of the opcode table, operands at the table's widths. -/
inductive Instr where
  /-- `NOP` (R151). -/
  | nop
  /-- `SETCH idx, val` (R152): the whole 8-bit index is an operand, 16 to 255 being refused when it is performed. -/
  | setch (idx : BitVec 8) (val : Pulse)
  /-- `GETCH idx` (R153). -/
  | getch (idx : BitVec 8)
  /-- `SELP id` (R154). -/
  | selp (id : BitVec 8)
  /-- `START flags, secs` (R155); bit 0 of the flags is `BIND_EN`, bit 1 `FS_EN`, bits 7:2 must be 0 (R93). -/
  | start (flags : BitVec 8) (secs : BitVec 16)
  /-- `SEND` (R156). -/
  | send
  /-- `LOOPON` (R157). -/
  | loopon
  /-- `LOOPOFF` (R158). -/
  | loopoff
  /-- `STOP` (R159). -/
  | stop
  /-- `STATUS` (R160). -/
  | status
  /-- `FRAME.CONTROL`: build a control frame for `pid` from the ChannelSet and hand it over (R131, R138). -/
  | frameControl (pid : BitVec 7)
  /-- `FRAME.BIND`: build a bind frame for `pid` from the ChannelSet and hand it over (R132, R138). -/
  | frameBind (pid : BitVec 7)
  /-- `FRAME.PRIMING`: build the priming frame and hand it over (R133, R138). -/
  | framePriming
  /-- `FRAME.FAILSAFE`: build a failsafe-setup frame for `pid` and hand it over (R134, R138). -/
  | frameFailsafe (pid : BitVec 7)
  deriving DecidableEq, Repr

/-- The pseudo-command `BIND secs` (R95). -/
abbrev Instr.pseudoBind (secs : BitVec 16) : Instr := .start 1 secs

/-- The pseudo-command `FAILSAFE` (R95). -/
abbrev Instr.pseudoFailsafe : Instr := .start 2 0

/-- The pseudo-command `RUN` (R95). -/
abbrev Instr.pseudoRun : Instr := .start 0 0

/-- Is the row a command of the CMD port, not an internal operation (R89, R97)? -/
def Instr.isCommand : Instr → Bool
  | .nop | .setch _ _ | .getch _ | .selp _ | .start _ _ => true
  | .send | .loopon | .loopoff | .stop | .status => true
  | .frameControl _ | .frameBind _ | .framePriming | .frameFailsafe _ => false

end Sys2Proof
end

