-- ==== Sys2Proof/WellFormed.lean ====
section
/-! DEFINITION. Which terms of Instr an encoding stands for. The operand types already hold every field to its
width; the one check left is the reserved START flags (30_encoding rules R90, R93). -/

namespace Sys2Proof

/-- `flags[7:2] = 0` (R90, R93). -/
def startFlagsDefined (flags : BitVec 8) : Bool := flags.extractLsb' 2 6 == 0#6

/-- The term is one that some word encodes. -/
def WellFormed : Instr → Bool
  | .start flags _ => startFlagsDefined flags
  | .nop | .setch _ _ | .getch _ | .selp _ => true
  | .send | .loopon | .loopoff | .stop | .status => true
  | .frameControl _ | .frameBind _ | .framePriming | .frameFailsafe _ => true

end Sys2Proof
end

