-- ==== Sys2Proof/Decode.lean ====
section
/-! DEFINITION. Decoding of command words (30_encoding rules R88 to R90) and of frames (R80 to R86), total and
refusing by name; the encoder written from the same tables; the opcode table as rows of match and mask. -/

namespace Sys2Proof

/-- Why a word or a frame encodes nothing. Each command reason is answered `ILLEGAL_CMD` (R90, R216). -/
inductive DecodeError where
  /-- `op` is 0xA to 0xF (R90, R161). -/
  | reservedOpcode
  /-- `rsv ≠ 0` (R90). -/
  | reservedField
  /-- `arg8 ≠ 0` in a command that does not use it (R90). -/
  | unusedArg8
  /-- `data16 ≠ 0` in a command that does not use it (R90). -/
  | unusedData16
  /-- `flags[7:2] ≠ 0` in `START` (R90, R93). -/
  | undefinedStartFlag
  /-- The bytes are none of the four frame kinds (R85, R86). -/
  | notAFrame
  deriving DecidableEq, Repr

/-- `w[31:28]` (R88). -/
def CmdWord.op (w : CmdWord) : BitVec 4 := w.extractLsb' 28 4

/-- `w[27:24]` (R88). -/
def CmdWord.rsv (w : CmdWord) : BitVec 4 := w.extractLsb' 24 4

/-- `w[23:16]` (R88). -/
def CmdWord.arg8 (w : CmdWord) : BitVec 8 := w.extractLsb' 16 8

/-- `w[15:0]` (R88). -/
def CmdWord.data16 (w : CmdWord) : BitVec 16 := w.extractLsb' 0 16

/-- A command that uses no operand field (R90). -/
def withoutOperands (w : CmdWord) (i : Instr) : Except DecodeError Instr :=
  if CmdWord.arg8 w ≠ 0 then .error .unusedArg8
  else if CmdWord.data16 w ≠ 0 then .error .unusedData16
  else .ok i

/-- A command that uses `arg8` only (R90). -/
def withoutData (w : CmdWord) (i : Instr) : Except DecodeError Instr :=
  if CmdWord.data16 w ≠ 0 then .error .unusedData16 else .ok i

/-- `START`: the undefined flags must be 0 (R90, R93). -/
def decodeStart (w : CmdWord) : Except DecodeError Instr :=
  if startFlagsDefined (CmdWord.arg8 w) then .ok (.start (CmdWord.arg8 w) (CmdWord.data16 w))
  else .error .undefinedStartFlag

/-- The decoder of the CMD port (R89, R90): every word is a command or is refused by name. No word is a frame row
(R97). -/
def decodeCommand (w : CmdWord) : Except DecodeError Instr :=
  if CmdWord.rsv w ≠ 0 then .error .reservedField
  else match (CmdWord.op w).toNat with
    | 0 => withoutOperands w .nop
    | 1 => .ok (.setch (CmdWord.arg8 w) (CmdWord.data16 w))
    | 2 => withoutData w (.getch (CmdWord.arg8 w))
    | 3 => withoutData w (.selp (CmdWord.arg8 w))
    | 4 => decodeStart w
    | 5 => withoutOperands w .send
    | 6 => withoutOperands w .loopon
    | 7 => withoutOperands w .loopoff
    | 8 => withoutOperands w .stop
    | 9 => withoutOperands w .status
    | _ => .error .reservedOpcode

/-- The kind of a frame, read from its four header bytes and from whether its payload is all zero (R85). The header
`55 01 00 00` with a zero payload fits PRIMING and CONTROL alike; it is read as PRIMING (log entry 7). -/
def decodeFrameHeader (b0 b1 b2 b3 : Byte) (zeroPayload : Bool) : Except DecodeError Instr :=
  if b2 ≠ 0 ∨ b3 ≠ 0 then .error .notAFrame
  else if b0 = 0x55#8 then
    if b1 = 0x01#8 ∧ zeroPayload = true then .ok .framePriming
    else if b1.msb then .ok (.frameBind (b1.setWidth 7))
    else .ok (.frameControl (b1.setWidth 7))
  else if b0 = 0x57#8 ∧ b1.msb = false ∧ zeroPayload = true then .ok (.frameFailsafe (b1.setWidth 7))
  else .error .notAFrame

/-- The kind of a whole frame of 26 bytes (R80, R85, R86). -/
def decodeFrame (f : Frame) : Except DecodeError Instr :=
  decodeFrameHeader f[0] f[1] f[2] f[3] ((f.toList.drop 4).all (· == 0))

/-- The row a 32-bit word of the opcode table stands for: a command word, or the header of a frame whose payload
bytes are all zero, byte 0 most significant (R85, R89). The two sets of words are disjoint: a header has
`rsv ≠ 0`. -/
def decode (w : CmdWord) : Except DecodeError Instr :=
  match decodeCommand w with
  | .ok i => .ok i
  | .error e =>
    match decodeFrameHeader (w.extractLsb' 24 8) (w.extractLsb' 16 8) (w.extractLsb' 8 8) (w.extractLsb' 0 8) true with
    | .ok i => .ok i
    | .error _ => .error e

/-- The decoder asked about a row of the opcode table: every row has 32 bits and is one 32-bit word. -/
def decodeTableWord (nbits w : Nat) : Option Instr :=
  if nbits = 32 ∧ w < 2 ^ 32 then
    match decode (BitVec.ofNat 32 w) with
    | .ok i => some i
    | .error _ => none
  else none

/-- A command word from its fields (R88). -/
def cmdWord (op : BitVec 4) (arg8 : BitVec 8) (data16 : BitVec 16) : CmdWord :=
  op ++ (0#4 ++ (arg8 ++ data16))

/-- The four header bytes of a frame as one number, byte 0 most significant (R85). -/
def headerWord (b0 b1 : Byte) : CmdWord := b0 ++ (b1 ++ 0#16)

/-- `SEL` of a frame: the identifier, with or without the bind flag (R82, R87). -/
def selByte (pid : BitVec 7) (bindFlag : Bool) : Byte :=
  pid.setWidth 8 ||| (if bindFlag then 0x80#8 else 0#8)

/-- The word of an instruction (R85, R89): a command word, or a frame's header. -/
def encode : Instr → CmdWord
  | .nop => cmdWord 0 0 0
  | .setch idx val => cmdWord 1 idx val
  | .getch idx => cmdWord 2 idx 0
  | .selp id => cmdWord 3 id 0
  | .start flags secs => cmdWord 4 flags secs
  | .send => cmdWord 5 0 0
  | .loopon => cmdWord 6 0 0
  | .loopoff => cmdWord 7 0 0
  | .stop => cmdWord 8 0 0
  | .status => cmdWord 9 0 0
  | .frameControl pid => headerWord 0x55 (selByte pid false)
  | .frameBind pid => headerWord 0x55 (selByte pid true)
  | .framePriming => headerWord 0x55 0x01
  | .frameFailsafe pid => headerWord 0x57 (selByte pid false)

/-- `SETCH idx, val` as the assembly syntax reads it: any integer `val`, reduced modulo 2^16 (R94). -/
def assembleSetch (idx : BitVec 8) (val : Int) : CmdWord := encode (.setch idx (BitVec.ofInt 16 val))

/-- A row of the opcode table: a word matches it when `w & mask = pattern` (R85, R89). -/
structure Row where
  pattern : CmdWord
  mask : CmdWord
  deriving DecidableEq, Repr

/-- The row of each instruction in spec/opcode_table.json (R85, R89). -/
def Instr.row : Instr → Row
  | .nop => ⟨0x00000000, 0xFFFFFFFF⟩
  | .setch _ _ => ⟨0x10000000, 0xFF000000⟩
  | .getch _ => ⟨0x20000000, 0xFF00FFFF⟩
  | .selp _ => ⟨0x30000000, 0xFF00FFFF⟩
  | .start _ _ => ⟨0x40000000, 0xFFFC0000⟩
  | .send => ⟨0x50000000, 0xFFFFFFFF⟩
  | .loopon => ⟨0x60000000, 0xFFFFFFFF⟩
  | .loopoff => ⟨0x70000000, 0xFFFFFFFF⟩
  | .stop => ⟨0x80000000, 0xFFFFFFFF⟩
  | .status => ⟨0x90000000, 0xFFFFFFFF⟩
  | .frameControl _ => ⟨0x55000000, 0xFF80FFFF⟩
  | .frameBind _ => ⟨0x55800000, 0xFF80FFFF⟩
  | .framePriming => ⟨0x55010000, 0xFFFFFFFF⟩
  | .frameFailsafe _ => ⟨0x57000000, 0xFF80FFFF⟩

/-- `w & mask = pattern`. -/
abbrev Row.Matches (r : Row) (w : CmdWord) : Prop := w &&& r.mask = r.pattern

/-- The ten rows of the command table, in the order of R89. -/
def commandRows : List Row :=
  [Instr.nop.row, (Instr.setch 0 0).row, (Instr.getch 0).row, (Instr.selp 0).row, (Instr.start 0 0).row,
   Instr.send.row, Instr.loopon.row, Instr.loopoff.row, Instr.stop.row, Instr.status.row]

end Sys2Proof
end

