-- ==== Sys2Proof/Machine/Constants.lean ====
section
/-! DEFINITION. The constants the source fixes (00_scope rule R7) that the other files name, and the parameter values
State.reset starts from (R8, R9). -/

namespace Sys2Proof.Machine

/-- `PULSE_MIN` (R7). -/
abbrev pulseMin : Int := 860

/-- `PULSE_MAX` (R7). -/
abbrev pulseMax : Int := 2140

/-- `SCALE_NUM` (R7). -/
abbrev scaleNum : Int := 8

/-- `SCALE_DEN` (R7). -/
abbrev scaleDen : Int := 5

/-- `CODE_MAX` (R7). -/
abbrev codeMax : Int := 2047

/-- `HDR_CTRL` (R7, R81). -/
abbrev hdrCtrl : Byte := 0x55

/-- `HDR_FS` (R7, R81). -/
abbrev hdrFs : Byte := 0x57

/-- `BIND_FLAG` (R7). -/
abbrev bindFlag : Byte := 0x80

/-- `PRIME_PROTO` (R7). -/
abbrev primeProto : Byte := 0x01

/-- `BURST_N`, frames in a priming or failsafe burst, at the width of `CNT` (R7). -/
abbrev burstN : BitVec 4 := 10

/-- `GAP_MS`, at the width of `SLOT_T` (R7). -/
abbrev gapMs : BitVec 7 := 50

/-- `BIND_UNIT_MS`, at the width of `BIND_LIMIT` (R7). -/
abbrev bindUnitMs : BitVec 26 := 1000

/-- The parameters of State.reset: the defaults of `PROTO_SET` and `PRIME_ALWAYS` (R8, R9) and, where the spec leaves
the value open, the one its vectors use (R9). DESIGN CHOICE (log entry 2). -/
def initialParams : Params :=
  { protoSet := [5, 15, 25], streamPeriodMs := 50, chReset := 1500, primeAlways := true }

end Sys2Proof.Machine
end

