-- ==== Sys2Proof/Machine/Codec.lean ====
section
/-! DEFINITION. The Channel Value Codec (40_codec): ENCODE (R110 to R115), PACK as the bit accumulator (R116) and in
closed form (R117), and the test oracle UNPACK (R120). -/

namespace Sys2Proof.Machine

/-- The input clamp, both bounds inclusive (R111). -/
def clampPulse (p : Int) : Int := min (max p pulseMin) pulseMax

/-- The linear scale: multiply, then divide rounding toward minus infinity (R112). -/
def scalePulse (c : Int) : Int := (c - pulseMin) * scaleNum / scaleDen

/-- `ENCODE(p)` as an integer: clamp, scale, ceiling (R110 to R113). -/
def encodeInt (p : Int) : Int := min (scalePulse (clampPulse p)) codeMax

/-- `ENCODE(p)` as an 11-bit ChannelCode (R110, R114). -/
def encodePulse (p : Int) : ChannelCode := BitVec.ofInt 11 (encodeInt p)

/-- The code of a channel register, whose content is a two's-complement number (R20, R110). -/
def registerCode (v : Pulse) : ChannelCode := encodePulse v.toInt

/-- The working registers of a PACK (R32, R33). -/
structure PackRegs where
  /-- `ACC`. -/
  acc : BitVec 19
  /-- `NBITS`. -/
  nbits : BitVec 5
  /-- `OUTPOS`. -/
  outpos : BitVec 5
  /-- `PAYLOAD`. -/
  payload : Payload
  deriving DecidableEq, Repr

/-- `ACC <- 0; NBITS <- 0; OUTPOS <- 0`; the payload bytes are all written before they are used (R33). -/
def PackRegs.start : PackRegs :=
  { acc := 0, nbits := 0, outpos := 0, payload := Vector.replicate 22 0 }

/-- Insert a code at the current bit offset (R116). -/
def PackRegs.insert (r : PackRegs) (c : ChannelCode) : PackRegs :=
  { r with acc := r.acc ||| (c.setWidth 19 <<< r.nbits.toNat), nbits := r.nbits + 11 }

/-- Emit the low byte of the accumulator (the body of the drain loop of R116). -/
def PackRegs.emitByte (r : PackRegs) : PackRegs :=
  { acc := r.acc >>> 8
    nbits := r.nbits - 8
    outpos := r.outpos + 1
    payload := r.payload.setIfInBounds r.outpos.toNat (r.acc.setWidth 8) }

/-- `while NBITS >= 8` (R116), at most `fuel` times round. -/
def PackRegs.drain : Nat → PackRegs → PackRegs
  | 0, r => r
  | fuel + 1, r => if 8 ≤ r.nbits.toNat then PackRegs.drain fuel r.emitByte else r

/-- One channel: insert its code, then drain. `NBITS` has 5 bits, so three rounds always leave fewer than 8 bits. -/
def PackRegs.channel (r : PackRegs) (v : Pulse) : PackRegs :=
  PackRegs.drain 3 (r.insert (registerCode v))

/-- The working registers after the sixteen channels, in index order (R116). -/
def packRegs (v : ChannelSet) : PackRegs := v.toList.foldl PackRegs.channel PackRegs.start

/-- `PACK(v)` (R116). -/
def pack (v : ChannelSet) : Payload := (packRegs v).payload

/-- The number `P` of R117: `code_0 + code_1 * 2^11 + … + code_15 * 2^165`. -/
def packedNumber (v : ChannelSet) : Nat :=
  v.toList.foldr (fun p rest => (registerCode p).toNat + 2 ^ 11 * rest) 0

/-- A payload read as one little-endian number: the sum of `PAYLOAD[k] * 2^(8k)` (R60, R120). -/
def payloadNumber (b : Payload) : Nat := b.toList.foldr (fun x rest => x.toNat + 2 ^ 8 * rest) 0

/-- The closed form of PACK: byte `k` is `floor(P / 2^(8k)) mod 256` (R117). -/
def packClosed (v : ChannelSet) : Payload :=
  Vector.ofFn fun k : Fin 22 => BitVec.ofNat 8 (packedNumber v / 2 ^ (8 * k.val))

/-- `UNPACK(b)`, the test oracle: field `i` is `floor(P / 2^(11 i)) mod 2048` (R120). -/
def unpack (b : Payload) : Vector ChannelCode 16 :=
  Vector.ofFn fun i : Fin 16 => BitVec.ofNat 11 (payloadNumber b / 2 ^ (11 * i.val))

/-- Global payload bit `g` (R10, R51): bit `g mod 8` of byte `floor(g / 8)`. -/
def payloadBit (b : Payload) (g : Nat) : Bool := (b[g / 8]?.getD 0).getLsbD (g % 8)

end Sys2Proof.Machine
end

