-- ==== Sys2Proof/Machine/Builder.lean ====
section
/-! DEFINITION. The Frame Builder (41_frame_builder rules R130 to R137): four pure functions to 26 bytes. -/

namespace Sys2Proof.Machine

/-- The common layout (R80): `HDR`, `SEL`, two reserved zero bytes, the payload. -/
def frameOf (hdr sel : Byte) (payload : Payload) : Frame :=
  ⟨⟨hdr :: sel :: 0x00 :: 0x00 :: payload.toList⟩, by simp⟩

/-- `zeros(22)` (R10). -/
def zeroPayload : Payload := Vector.replicate 22 0

/-- `BUILD_CONTROL(pid, v)` (R131). -/
def buildControl (pid : BitVec 7) (v : ChannelSet) : Frame := frameOf hdrCtrl (pid.setWidth 8) (pack v)

/-- `BUILD_BIND(pid, v)` (R132). -/
def buildBind (pid : BitVec 7) (v : ChannelSet) : Frame := frameOf hdrCtrl (pid.setWidth 8 ||| bindFlag) (pack v)

/-- `BUILD_PRIMING()` (R133). -/
def buildPriming : Frame := frameOf hdrCtrl primeProto zeroPayload

/-- `BUILD_FAILSAFE(pid)` (R134). -/
def buildFailsafe (pid : BitVec 7) : Frame := frameOf hdrFs (pid.setWidth 8) zeroPayload

end Sys2Proof.Machine
end

