-- ==== Sys2Proof/Machine/State.lean ====
section
/-! DEFINITION. The state of MPTX-CORE (10_state rules R20 to R36) as plain data, its value after reset, and the ways
a step can stop (none is used). -/

namespace Sys2Proof.Machine

/-- `SEQ`, the state of the Session Sequencer (R22). The encodings 5 and 6 are never held (U4), so they are no values
of this type (log entry 9). -/
inductive SeqState where
  | idle
  | priming
  | bind
  | failsafe
  | streaming
  | fault
  deriving DecidableEq, Repr

/-- The response codes (R91); the codes 5 to 15 are never produced (U8). -/
inductive RspCode where
  | ok
  | configError
  | stateError
  | transportError
  | illegalCmd
  deriving DecidableEq, Repr

/-- One response word: a code and 16 data bits (R91). -/
structure Response where
  code : RspCode
  data : BitVec 16
  deriving DecidableEq, Repr

/-- One event (R12): what arrives at the ports RST, TXERR, TICK and CMD (R54, R57 to R59). -/
inductive Event where
  | rst
  | txerr
  | tick
  | cmd (w : CmdWord)
  deriving DecidableEq, Repr

/-- Why the machine would stop with a fault: never. Every error of the spec is a response and the next event is
processed normally (R219), so the type has no constructor and nothing raises one; safe. -/
inductive Fault where
  deriving DecidableEq, Repr

/-- Why the model would give an instruction no meaning. -/
inductive Refusal where
  /-- Raised only by an arm of exec for an instruction not modelled yet: at present by none. Safe: the model stops. -/
  | notModelled (mnemonic : String)
  deriving DecidableEq, Repr

/-- The whole state: the record of 10_state with the codec's working registers (R32, R33), and the model's own
fields. -/
structure State where
  /-- `CH[0..15]` (R20). -/
  ch : ChannelSet
  /-- `SEQ` (R22). -/
  seq : SeqState
  /-- `CNT` (R23). -/
  cnt : BitVec 4
  /-- `SLOT_T` (R24). -/
  slotT : BitVec 7
  /-- `BIND_ELAPSED` (R25). -/
  bindElapsed : BitVec 26
  /-- `BIND_LIMIT` (R26). -/
  bindLimit : BitVec 26
  /-- `PROTO` (R27). -/
  proto : BitVec 7
  /-- `PROTO_V` (R27). -/
  protoV : Bool
  /-- `LOOP` (R28). -/
  loop : Bool
  /-- `BIND_EN` (R29). -/
  bindEn : Bool
  /-- `FS_EN` (R29). -/
  fsEn : Bool
  /-- `TERR` (R30). -/
  terr : Bool
  /-- `ACC` (R32). -/
  acc : BitVec 19
  /-- `NBITS` (R32). -/
  nbits : BitVec 5
  /-- `OUTPOS`, `PAYLOAD`, `FRAME` (R33): any value between emissions (U5, log entry 5). -/
  bufs : WorkBuffers
  /-- The model's own: the number of the next free value (log entry 5). -/
  freeIdx : Nat
  /-- The model's own: the parameters, arguments of the model (R9, log entry 1). -/
  par : Params
  /-- The model's own: the events not yet processed, oldest first (R12, log entry 3). -/
  inq : List Event
  /-- The model's own: what has left the RSP port, oldest first (R55, log entry 4). -/
  rsp : List Response
  /-- The model's own: what has left the TX port, oldest first (R56, log entry 4). -/
  tx : List Frame
  deriving DecidableEq, Repr

/-- The state after reset (R36) under the parameters `p`, with nothing waiting and nothing sent. -/
def State.resetWith (p : Params) : State where
  ch := Vector.replicate 16 p.chReset
  seq := .idle
  cnt := 0
  slotT := 0
  bindElapsed := 0
  bindLimit := 0
  proto := 0
  protoV := false
  loop := true
  bindEn := false
  fsEn := false
  terr := false
  acc := 0
  nbits := 0
  bufs := { outpos := 0, payload := Vector.replicate 22 0, frame := Vector.replicate 26 0 }
  freeIdx := 0
  par := p
  inq := []
  rsp := []
  tx := []

/-- The machine right after reset (R36), under the parameters of log entry 2. -/
def State.reset : State := State.resetWith initialParams

end Sys2Proof.Machine
end

