-- ==== Sys2Proof/Machine/Flags.lean ====
section
/-! DEFINITION. The encodings of the sequencer state, the response code, the response word and the STATUS word
(10_state rule R22, 30_encoding rules R91, R92). -/

namespace Sys2Proof.Machine

/-- The 3-bit encoding of `SEQ` (R22). -/
def SeqState.code : SeqState → BitVec 3
  | .idle => 0
  | .priming => 1
  | .bind => 2
  | .failsafe => 3
  | .streaming => 4
  | .fault => 7

/-- The 4-bit response code (R91). -/
def RspCode.number : RspCode → BitVec 4
  | .ok => 0
  | .configError => 1
  | .stateError => 2
  | .transportError => 3
  | .illegalCmd => 4

/-- The 20-bit response word: code in bits 19:16, data in bits 15:0 (R91). -/
def Response.word (r : Response) : BitVec 20 := r.code.number ++ r.data

/-- A one-bit flag as a number. -/
def flagBit (b : Bool) : BitVec 16 := if b then 1 else 0

/-- `(PROTO << 9) | (PROTO_V << 8) | (LOOP << 7) | (CNT << 3) | SEQ` (R92, R160). -/
def State.statusWord (s : State) : BitVec 16 :=
  (s.proto.setWidth 16 <<< 9) ||| (flagBit s.protoV <<< 8) ||| (flagBit s.loop <<< 7) |||
    (s.cnt.setWidth 16 <<< 3) ||| s.seq.code.setWidth 16

/-- The pseudo-command `GETP`: `data[15:9]` of a STATUS response (R95). -/
def getpOf (data : BitVec 16) : BitVec 7 := data.extractLsb' 9 7

end Sys2Proof.Machine
end

