-- ==== Sys2Proof/Machine/Operands.lean ====
section
/-! DEFINITION. The operand forms of the commands: the channel index, the protocol identifier, the START flags and
the bind duration (30_encoding rules R88 to R93). -/

namespace Sys2Proof.Machine

/-- The channel an `idx` operand names; 16 to 255 name none (R64). -/
def channelOf (idx : BitVec 8) : Option (Fin 16) :=
  if h : idx.toNat < 16 then some ⟨idx.toNat, h⟩ else none

/-- The protocol an `id` operand selects: the member of `PROTO_SET` equal to it, if there is one (R8, R154). -/
def protocolOf (par : Params) (id : BitVec 8) : Option (BitVec 7) :=
  par.protoSet.find? fun p => p.setWidth 8 == id

/-- `BIND_EN`, bit 0 of the START flags (R93). -/
def flagBindEn (flags : BitVec 8) : Bool := flags.getLsbD 0

/-- `FS_EN`, bit 1 of the START flags (R93). -/
def flagFsEn (flags : BitVec 8) : Bool := flags.getLsbD 1

/-- `BIND_LIMIT` of a duration in seconds: `secs * 1000` at 26 bits, which hold it (R26, R155). -/
def bindLimitOf (secs : BitVec 16) : BitVec 26 := secs.setWidth 26 * bindUnitMs

end Sys2Proof.Machine
end

