-- ==== Sys2Proof/Machine/Ops.lean ====
section
/-! DEFINITION. The shared operations: responding, refusing a command (the synchronous errors, 60_exceptions rule
R219), taking and leaving TransportError (R220, R221), emitting a frame (41_frame_builder rule R138), and the arrival
of events (R12, R218). -/

namespace Sys2Proof.Machine

/-- `respond(code, data)`: one response word on the RSP port (R11, R55). -/
def State.respond (s : State) (c : RspCode) (d : BitVec 16) : State := { s with rsp := s.rsp ++ [⟨c, d⟩] }

/-- `respond(OK, 0)`. -/
def State.done (s : State) : State := s.respond .ok 0

/-- The entry of a synchronous error (R219): nothing changes, one response with data 0. -/
def State.refuse (s : State) (c : RspCode) : State := s.respond c 0

/-- Step 2 of the command processing, for the commands FAULT does not accept (R150). -/
def State.unlessFault (s : State) (perform : State → State) : State :=
  if s.seq = .fault then s.refuse .transportError else perform s

/-- The entry of TransportError, the TXERR event (R220). -/
def State.takeTransportError (s : State) : State := { s with seq := .fault, terr := true, slotT := 0 }

/-- The RST event (R240), the only way out of FAULT (R221). PAYLOAD and FRAME are not written; what waits at the
ports and what has left them are no state of the block (R241). -/
def State.applyReset (s : State) : State :=
  { s with
    ch := Vector.replicate 16 s.par.chReset
    seq := .idle
    cnt := 0
    slotT := 0
    bindElapsed := 0
    bindLimit := 0
    proto := 0
    protoV := false
    loop := true
    bindEn := false
    fsEn := false
    terr := false
    acc := 0
    nbits := 0
    bufs := { s.bufs with outpos := 0 } }

/-- `CH[idx] <- val` (R65, R152). -/
def State.setChannel (s : State) (i : Fin 16) (val : Pulse) : State := { s with ch := s.ch.set i val }

/-- `PROTO <- id; PROTO_V <- 1` (R154). -/
def State.selectProtocol (s : State) (p : BitVec 7) : State := { s with proto := p, protoV := true }

/-- PACK runs on the channel registers (R116): `ACC` and `NBITS` are left as it leaves them. -/
def State.runPack (s : State) : State :=
  { s with acc := (packRegs s.ch).acc, nbits := (packRegs s.ch).nbits }

/-- The hand-over of 26 bytes to the transport (R56, R138); afterwards the working buffers hold any value (U5). -/
def State.handOver (s : State) (f : Frame) : State :=
  { s with tx := s.tx ++ [f], bufs := Config.freeBuffers s.freeIdx, freeIdx := s.freeIdx + 1 }

/-- Build a control frame for `pid` from the registers and hand it over (R131, R138). -/
def State.emitControlFor (s : State) (pid : BitVec 7) : State := s.runPack.handOver (buildControl pid s.ch)

/-- Build a bind frame for `pid` from the registers and hand it over (R132, R138). -/
def State.emitBindFor (s : State) (pid : BitVec 7) : State := s.runPack.handOver (buildBind pid s.ch)

/-- Build a failsafe-setup frame for `pid` and hand it over (R134, R138). -/
def State.emitFailsafeFor (s : State) (pid : BitVec 7) : State := s.handOver (buildFailsafe pid)

/-- `EMIT(CONTROL)` (R138). -/
def State.emitControl (s : State) : State := s.emitControlFor s.proto

/-- `EMIT(BIND)` (R138). -/
def State.emitBind (s : State) : State := s.emitBindFor s.proto

/-- `EMIT(PRIMING)` (R138). -/
def State.emitPriming (s : State) : State := s.handOver buildPriming

/-- `EMIT(FAILSAFE)` (R138). -/
def State.emitFailsafe (s : State) : State := s.emitFailsafeFor s.proto

/-- What may arrive in one hardware cycle (R218). -/
structure Cycle where
  rst : Bool
  txerr : Bool
  tick : Bool
  cmd : Option CmdWord
  deriving DecidableEq, Repr

/-- The order of the events of one cycle: RST, which discards the others; else TXERR, then TICK, then CMD (R218). -/
def Cycle.events (c : Cycle) : List Event :=
  if c.rst then [.rst]
  else (if c.txerr then [.txerr] else []) ++ (if c.tick then [.tick] else []) ++ c.cmd.toList.map Event.cmd

/-- The events of a cycle arrive behind those still waiting (R68). Done by the outside world, not by a step. -/
def State.arrive (s : State) (c : Cycle) : State := { s with inq := s.inq ++ c.events }

/-- A line of the spec's programs (R94): a command, `TICK n`, `TXERR` or `RST`. -/
inductive ProgramLine where
  | command (i : Instr)
  | ticks (n : Nat)
  | txerr
  | rst
  deriving DecidableEq, Repr

/-- The events a line stands for (R94). -/
def ProgramLine.events : ProgramLine → List Event
  | .command i => [.cmd (encode i)]
  | .ticks n => List.replicate n .tick
  | .txerr => [.txerr]
  | .rst => [.rst]

/-- The events of a program, in order (R94). -/
def programEvents (lines : List ProgramLine) : List Event := lines.flatMap ProgramLine.events

end Sys2Proof.Machine
end

