-- ==== Sys2Proof/Machine/Access.lean ====
section
/-! DEFINITION. The commands that read and write registers: NOP, SETCH, GETCH, SELP, STATUS (42_commands rules R151
to R154, R160). -/

namespace Sys2Proof.Machine

/-- `NOP` (R151). -/
def execNop (s : State) : Host.Outcome State Fault Refusal := .next s.done

/-- What an accepted-state `SETCH` does: the operand check, then the write (R152). -/
def State.writeChannel (s : State) (idx : BitVec 8) (val : Pulse) : State :=
  match channelOf idx with
  | none => s.refuse .configError
  | some i => (s.setChannel i val).done

/-- `SETCH idx, val` (R152). -/
def execSetch (idx : BitVec 8) (val : Pulse) (s : State) : Host.Outcome State Fault Refusal :=
  .next (s.unlessFault fun s => s.writeChannel idx val)

/-- What `GETCH` does: the operand check, then the raw register content (R21, R153). -/
def State.readChannel (s : State) (idx : BitVec 8) : State :=
  match channelOf idx with
  | none => s.refuse .configError
  | some i => s.respond .ok s.ch[i]

/-- `GETCH idx`, accepted in every state (R153). -/
def execGetch (idx : BitVec 8) (s : State) : Host.Outcome State Fault Refusal := .next (s.readChannel idx)

/-- What `SELP` does outside FAULT: the state check, the operand check, the selection (R154). -/
def State.chooseProtocol (s : State) (id : BitVec 8) : State :=
  if s.seq ≠ .idle then s.refuse .stateError
  else match protocolOf s.par id with
    | none => s.refuse .configError
    | some p => (s.selectProtocol p).done

/-- `SELP id` (R154). -/
def execSelp (id : BitVec 8) (s : State) : Host.Outcome State Fault Refusal :=
  .next (s.unlessFault fun s => s.chooseProtocol id)

/-- `STATUS`, accepted in every state (R160). -/
def execStatus (s : State) : Host.Outcome State Fault Refusal := .next (s.respond .ok s.statusWord)

end Sys2Proof.Machine
end

