-- ==== Sys2Proof/Machine/Frames.lean ====
section
/-! DEFINITION. The four frame rows of the opcode table: internal operations, each a builder and the hand-over to the
TX port (41_frame_builder rules R131 to R134, R138). No command word reaches them (30_encoding rule R97); the
sequencer and the commands SEND and LOOPON run the same operations with `pid` = PROTO (log entry 6). -/

namespace Sys2Proof.Machine

/-- `FRAME.CONTROL pid` (R131, R138). -/
def execFrameControl (pid : BitVec 7) (s : State) : Host.Outcome State Fault Refusal := .next (s.emitControlFor pid)

/-- `FRAME.BIND pid` (R132, R138). -/
def execFrameBind (pid : BitVec 7) (s : State) : Host.Outcome State Fault Refusal := .next (s.emitBindFor pid)

/-- `FRAME.PRIMING` (R133, R138). -/
def execFramePriming (s : State) : Host.Outcome State Fault Refusal := .next s.emitPriming

/-- `FRAME.FAILSAFE pid` (R134, R138). -/
def execFrameFailsafe (pid : BitVec 7) (s : State) : Host.Outcome State Fault Refusal := .next (s.emitFailsafeFor pid)

end Sys2Proof.Machine
end

