-- ==== Sys2Proof/Machine/Sequencer.lean ====
section
/-! DEFINITION. The Session Sequencer (43_sequencer): the slot action of each state (R184 to R189), entering
STREAMING (R188) and the TICK event (R183). A state that hands over without emitting acts again in the same slot; the
chain is at most PRIMING, BIND, FAILSAFE, so each function calls the ones after it. -/

namespace Sys2Proof.Machine

/-- Slot in STREAMING (R189). -/
def State.slotStreaming (s : State) : State :=
  if s.loop then { s.emitControl with slotT := s.par.streamPeriodMs } else { s with slotT := 0 }

/-- `ENTER_STREAMING()` (R188). -/
def State.enterStreaming (s : State) : State := State.slotStreaming { s with seq := .streaming, cnt := 0 }

/-- Slot in FAILSAFE (R187). -/
def State.slotFailsafe (s : State) : State :=
  if s.cnt < burstN then { s.emitFailsafe with cnt := s.cnt + 1, slotT := gapMs } else s.enterStreaming

/-- Slot in BIND (R186). -/
def State.slotBind (s : State) : State :=
  if s.bindElapsed < s.bindLimit then { s.emitBind with slotT := gapMs }
  else State.slotFailsafe { s with seq := .failsafe, cnt := 0 }

/-- Slot in PRIMING (R185). -/
def State.slotPriming (s : State) : State :=
  if s.cnt < burstN then { s.emitPriming with cnt := s.cnt + 1, slotT := gapMs }
  else if s.bindEn then State.slotBind { s with cnt := 0, seq := .bind, bindElapsed := 0 }
  else if s.fsEn then State.slotFailsafe { s with cnt := 0, seq := .failsafe }
  else State.enterStreaming { s with cnt := 0 }

/-- `SLOT()` (R184). -/
def State.slot (s : State) : State :=
  match s.seq with
  | .priming => s.slotPriming
  | .bind => s.slotBind
  | .failsafe => s.slotFailsafe
  | .streaming => s.slotStreaming
  | .idle => s
  | .fault => s

/-- The first part of TICK: `BIND_ELAPSED` counts in BIND, saturating at 2^26 - 1 (R25, R183). -/
def State.countBind (s : State) : State :=
  if s.seq = .bind ∧ s.bindElapsed < BitVec.allOnes 26 then { s with bindElapsed := s.bindElapsed + 1 } else s

/-- The second part of TICK: `SLOT_T` counts down and reaching 0 is a slot (R24, R183). -/
def State.countSlot (s : State) : State :=
  if s.slotT = 0 then s
  else if s.slotT = 1 then State.slot { s with slotT := 0 }
  else { s with slotT := s.slotT - 1 }

/-- The TICK event (R183). -/
def State.tick (s : State) : State := s.countBind.countSlot

end Sys2Proof.Machine
end

