-- ==== Sys2Proof/Machine/Session.lean ====
section
/-! DEFINITION. The commands that drive the session: START, SEND, LOOPON, LOOPOFF, STOP (42_commands rules R155 to
R159). -/

namespace Sys2Proof.Machine

/-- The registers START writes before it chooses the first state (R155). -/
def State.loadSession (s : State) (flags : BitVec 8) (secs : BitVec 16) : State :=
  { s with
    bindEn := flagBindEn flags
    fsEn := flagFsEn flags
    bindLimit := bindLimitOf secs
    bindElapsed := 0
    cnt := 0 }

/-- The first state of a session and its first slot (R155). -/
def State.beginSession (s : State) : State :=
  if s.par.primeAlways ∨ s.bindEn then State.slotPriming { s with seq := .priming }
  else if s.fsEn then State.slotFailsafe { s with seq := .failsafe }
  else s.enterStreaming

/-- What START does outside FAULT: the state check, the protocol check, the session (R155). -/
def State.startSession (s : State) (flags : BitVec 8) (secs : BitVec 16) : State :=
  if s.seq ≠ .idle then s.refuse .stateError
  else if s.protoV = false then s.refuse .configError
  else (s.loadSession flags secs).beginSession.done

/-- `START flags, secs` (R155). The check of the undefined flags is the decoder's (R90); it stands here too, for terms
that no word encodes (log entry 8). -/
def execStart (flags : BitVec 8) (secs : BitVec 16) (s : State) : Host.Outcome State Fault Refusal :=
  .next (if startFlagsDefined flags then s.unlessFault fun s => s.startSession flags secs
    else s.refuse .illegalCmd)

/-- What SEND does outside FAULT (R156). -/
def State.sendFrame (s : State) : State :=
  if s.seq ≠ .streaming then s.refuse .stateError
  else if s.loop then State.done { s.emitControl with slotT := s.par.streamPeriodMs }
  else s.emitControl.done

/-- `SEND` (R156). -/
def execSend (s : State) : Host.Outcome State Fault Refusal := .next (s.unlessFault State.sendFrame)

/-- What LOOPON does outside FAULT (R157). -/
def State.turnLoopOn (s : State) : State :=
  if s.loop then s.done
  else if s.seq = .streaming then
    State.done { State.emitControl { s with loop := true } with slotT := s.par.streamPeriodMs }
  else State.done { s with loop := true }

/-- `LOOPON` (R157). -/
def execLoopon (s : State) : Host.Outcome State Fault Refusal := .next (s.unlessFault State.turnLoopOn)

/-- What LOOPOFF does outside FAULT (R158). -/
def State.turnLoopOff (s : State) : State :=
  if s.seq = .streaming then State.done { s with loop := false, slotT := 0 }
  else State.done { s with loop := false }

/-- `LOOPOFF` (R158). -/
def execLoopoff (s : State) : Host.Outcome State Fault Refusal := .next (s.unlessFault State.turnLoopOff)

/-- What STOP does outside FAULT (R159). -/
def State.stopSession (s : State) : State :=
  State.done { s with seq := .idle, cnt := 0, slotT := 0, bindElapsed := 0 }

/-- `STOP` (R159). -/
def execStop (s : State) : Host.Outcome State Fault Refusal := .next (s.unlessFault State.stopSession)

end Sys2Proof.Machine
end

