-- ==== Sys2Proof/Machine/Dispatch.lean ====
section
/-! DEFINITION. The dispatch of every row of the opcode table to its meaning, in the table's order. -/

namespace Sys2Proof.Machine

/-- One direct call per constructor. -/
def exec (i : Instr) (s : State) : Host.Outcome State Fault Refusal :=
  match i with
  | .nop => Sys2Proof.Machine.execNop s
  | .setch idx val => Sys2Proof.Machine.execSetch idx val s
  | .getch idx => Sys2Proof.Machine.execGetch idx s
  | .selp id => Sys2Proof.Machine.execSelp id s
  | .start flags secs => Sys2Proof.Machine.execStart flags secs s
  | .send => Sys2Proof.Machine.execSend s
  | .loopon => Sys2Proof.Machine.execLoopon s
  | .loopoff => Sys2Proof.Machine.execLoopoff s
  | .stop => Sys2Proof.Machine.execStop s
  | .status => Sys2Proof.Machine.execStatus s
  | .frameControl pid => Sys2Proof.Machine.execFrameControl pid s
  | .frameBind pid => Sys2Proof.Machine.execFrameBind pid s
  | .framePriming => Sys2Proof.Machine.execFramePriming s
  | .frameFailsafe pid => Sys2Proof.Machine.execFrameFailsafe pid s

end Sys2Proof.Machine
end

