-- ==== Sys2Proof/Machine/Events.lean ====
section
/-! DEFINITION. Processing one event (00_scope rule R12): RST (R240), TXERR (R220), TICK (R183), CMD (R150); taking
the next event from those waiting; and placing the word of one opcode-table row so that the next step runs it. -/

namespace Sys2Proof.Machine

/-- A `CMD(w)` event: step 1 of R150 is the decoder; the rest is the command's meaning. -/
def receiveCommand (w : CmdWord) (s : State) : Host.Outcome State Fault Refusal :=
  match decodeCommand w with
  | .ok i => exec i s
  | .error _ => .next (s.refuse .illegalCmd)

/-- One event, processed in full (R12, R68). -/
def receive (e : Event) (s : State) : Host.Outcome State Fault Refusal :=
  match e with
  | .rst => .next s.applyReset
  | .txerr => .next s.takeTransportError
  | .tick => .next s.tick
  | .cmd w => receiveCommand w s

/-- The oldest waiting event leaves the queue and is processed; with none waiting the block waits, unchanged (log
entry 3). -/
def State.nextEvent (s : State) : Host.Outcome State Fault Refusal :=
  match s.inq with
  | [] => .next s
  | e :: rest => receive e { s with inq := rest }

/-- The word is the next command on the CMD port. -/
def State.placeCommand (s : State) (w : CmdWord) : State := { s with inq := .cmd w :: s.inq }

/-- The next event is the TICK of a slot in the state `seq`, with `proto` selected. -/
def State.placeSlot (s : State) (seq : SeqState) (proto : BitVec 7) : State :=
  { s with inq := .tick :: s.inq, seq := seq, proto := proto, protoV := true, slotT := 1 }

/-- Where an opcode-table row is placed (log entries 3 and 6): a command word at the head of the CMD port; for a frame
row, which no word invokes (R97), the TICK of a slot that emits exactly that frame, with all that this slot needs. -/
def State.placeTableWord (s : State) (nbits w : Nat) : State :=
  match decodeTableWord nbits w with
  | some (.frameControl pid) => { s.placeSlot .streaming pid with cnt := 0, loop := true }
  | some (.frameBind pid) =>
    { s.placeSlot .bind pid with cnt := 0, bindEn := true, bindElapsed := 0, bindLimit := bindUnitMs }
  | some .framePriming => { s.placeSlot .priming s.proto with cnt := 1 }
  | some (.frameFailsafe pid) => { s.placeSlot .failsafe pid with cnt := 1, fsEn := true }
  | _ => s.placeCommand (BitVec.ofNat 32 w)

end Sys2Proof.Machine
end

