-- ==== Sys2Proof/Machine/Step.lean ====
section
/-! DEFINITION. One step of the machine: one event (00_scope rule R12). Both definitions only call
Sys2Proof/Machine/Events.lean. -/

namespace Sys2Proof.Machine

/-- One step processes one event. -/
def step (s : State) : Host.Outcome State Fault Refusal := s.nextEvent

/-- `s` with one opcode-table row placed so that the very next step runs it (log entries 3 and 6). -/
def State.withFetchWord (s : State) (nbits w : Nat) : State := s.placeTableWord nbits w

end Sys2Proof.Machine
end

