-- ==== Sys2Proof/Safety.lean ====
section
/-! DEFINITION. What the statements speak of: the invariant of reachable states (10_state rule R35), the frames the
block may send (30_encoding rules R85, R86), the checks of a command in their order (42_commands rules R150, R162),
the transition graph (43_sequencer rule R181), and time counted in TICKs. -/

namespace Sys2Proof.Machine

/-- SEQ is one of the three burst states, which a running SLOT_T paces. -/
def SeqState.inBurst : SeqState → Bool
  | .priming | .bind | .failsafe => true
  | .idle | .streaming | .fault => false

/-- SEQ is one of the four states of a session. -/
def SeqState.inSession : SeqState → Bool
  | .priming | .bind | .failsafe | .streaming => true
  | .idle | .fault => false

/-- The FRAME row whose frame a session sends in each state, for the protocol `pid` (R180, log entry 6). -/
def SeqState.frameRow (q : SeqState) (pid : BitVec 7) : Option Instr :=
  match q with
  | .priming => some .framePriming
  | .bind => some (.frameBind pid)
  | .failsafe => some (.frameFailsafe pid)
  | .streaming => some (.frameControl pid)
  | .idle | .fault => none

/-- A frame one of the four builders makes, for a protocol of `PROTO_SET` where it takes one (R85, R138). -/
def BuiltFrame (par : Params) (f : Frame) : Prop :=
  f = buildPriming ∨
    ∃ pid ∈ par.protoSet, f = buildFailsafe pid ∨ ∃ v, f = buildControl pid v ∨ f = buildBind pid v

/-- What a frame on the TX port looks like (R80, R83, R86). -/
def FrameShape (f : Frame) : Prop :=
  (f[0] = 0x55#8 ∨ f[0] = 0x57#8) ∧ f[2] = 0 ∧ f[3] = 0 ∧
    (f[0] = 0x57#8 → f[1].msb = false ∧ ∀ k, (h : k < 22) → f[4 + k] = 0)

/-- The invariant of reachable states. Items 1 to 9 of R35 (item 1 is the type of SEQ); `bindTime` is item 7 made
inductive, with the bound of R26; `timerLoop` sharpens item 3 in STREAMING; `sent` says what every frame sent so far is. -/
structure Inv (s : State) : Prop where
  /-- The parameters meet R8 and R9. -/
  legal : s.par.Legal
  /-- Item 2. -/
  timerRuns : s.slotT ≠ 0 ↔ (s.seq.inBurst = true ∨ (s.seq = .streaming ∧ s.loop = true))
  /-- Item 3. -/
  timerMax : s.slotT.toNat ≤ max 50 s.par.streamPeriodMs.toNat
  /-- In STREAMING the slot timer is never above the period (R188, R189). -/
  timerLoop : s.seq = .streaming → s.slotT.toNat ≤ s.par.streamPeriodMs.toNat
  /-- Item 4. -/
  cntMax : s.cnt.toNat ≤ 10
  /-- Item 4. -/
  cntIdle : s.seq = .idle ∨ s.seq = .bind ∨ s.seq = .streaming → s.cnt = 0
  /-- Item 4. -/
  cntBurst : s.seq = .priming ∨ s.seq = .failsafe → 1 ≤ s.cnt.toNat
  /-- Item 5. -/
  sessionHasProto : s.seq.inSession = true → s.protoV = true
  /-- Item 6. -/
  protoLegal : s.protoV = true → s.proto ∈ s.par.protoSet
  /-- Item 6. -/
  protoNone : s.protoV = false → s.proto = 0
  /-- Item 7. -/
  bindEnabled : s.seq = .bind → s.bindEn = true
  /-- Item 7, `BIND_ELAPSED < BIND_LIMIT + 50`, with the time left to the next slot added. -/
  bindTime : s.seq = .bind → s.bindElapsed.toNat + s.slotT.toNat < s.bindLimit.toNat + 50
  /-- R26. -/
  limitMax : s.bindLimit.toNat ≤ 65535000
  /-- Item 8. -/
  terrIsFault : s.terr = true ↔ s.seq = .fault
  /-- Item 9. -/
  accZero : s.acc = 0
  /-- Item 9. -/
  nbitsZero : s.nbits = 0
  /-- Every frame sent is one of the four kinds. -/
  sent : ∀ f ∈ s.tx, BuiltFrame s.par f

end Sys2Proof.Machine

namespace Sys2Proof

open Sys2Proof.Machine

/-- The commands FAULT accepts: NOP, GETCH, STATUS (R150 step 2). -/
def Instr.acceptedInFault : Instr → Bool
  | .nop | .getch _ | .status => true
  | .setch _ _ | .selp _ | .start _ _ | .send | .loopon | .loopoff | .stop => false
  | .frameControl _ | .frameBind _ | .framePriming | .frameFailsafe _ => false

/-- The state check of a command (R150 step 3): SELP and START want IDLE, SEND wants STREAMING (R154 to R156, R215). -/
def Instr.acceptedIn : Instr → SeqState → Bool
  | .selp _, q | .start _ _, q => q == .idle
  | .send, q => q == .streaming
  | .nop, _ | .setch _ _, _ | .getch _, _ | .loopon, _ | .loopoff, _ | .stop, _ | .status, _ => true
  | .frameControl _, _ | .frameBind _, _ | .framePriming, _ | .frameFailsafe _, _ => true

/-- The operand check of a command (R150 step 4): the four causes of ConfigurationError (R211). -/
def Instr.operandsValid : Instr → State → Bool
  | .setch idx _, _ | .getch idx, _ => idx.toNat ≤ 15
  | .selp id, s => s.par.protoSet.any fun p => p.toNat == id.toNat
  | .start _ _, s => s.protoV
  | .nop, _ | .send, _ | .loopon, _ | .loopoff, _ | .stop, _ | .status, _ => true
  | .frameControl _, _ | .frameBind _, _ | .framePriming, _ | .frameFailsafe _, _ => true

/-- The first check of a command that fails, in the order of R150 and R217; none if the command is performed. -/
def Instr.firstFailure (i : Instr) (s : State) : Option RspCode :=
  if s.seq = .fault ∧ i.acceptedInFault = false then some .transportError
  else if i.acceptedIn s.seq = false then some .stateError
  else if i.operandsValid s = false then some .configError
  else none

end Sys2Proof

namespace Sys2Proof.Machine

/-- The arrows of the transition graph out of `s` for the event `e` (R181). A slot that passes through a state without
emitting in it makes two arrows in one event: PRIMING to FAILSAFE by way of BIND when the bind duration is 0. -/
def ArrowTo (s : State) (e : Event) (dst : SeqState) : Prop :=
  match e with
  | .rst => dst = .idle
  | .txerr => dst = .fault
  | .tick =>
    s.slotT = 1 ∧
      (s.seq = .priming ∧ 10 ≤ s.cnt.toNat ∧
          (dst = .bind ∧ s.bindEn = true ∧ 0 < s.bindLimit.toNat ∨
            dst = .failsafe ∧ s.bindEn = true ∧ s.bindLimit = 0 ∨
            dst = .failsafe ∧ s.bindEn = false ∧ s.fsEn = true ∨
            dst = .streaming ∧ s.bindEn = false ∧ s.fsEn = false) ∨
        s.seq = .bind ∧ dst = .failsafe ∧ s.bindLimit.toNat ≤ s.bindElapsed.toNat + 1 ∨
        s.seq = .failsafe ∧ dst = .streaming ∧ 10 ≤ s.cnt.toNat)
  | .cmd w =>
    (decodeCommand w = .ok .stop ∧ s.seq.inSession = true ∧ dst = .idle) ∨
      ∃ flags secs, decodeCommand w = .ok (.start flags secs) ∧ s.seq = .idle ∧ s.protoV = true ∧
        (dst = .priming ∧ (s.par.primeAlways = true ∨ flags.getLsbD 0 = true) ∨
          dst = .failsafe ∧ s.par.primeAlways = false ∧ flags.getLsbD 0 = false ∧ flags.getLsbD 1 = true ∨
          dst = .streaming ∧ s.par.primeAlways = false ∧ flags.getLsbD 0 = false ∧ flags.getLsbD 1 = false)

/-- `n` TICK events and nothing else (R10: time is counted in TICKs). -/
def State.ticks : Nat → State → State
  | 0, s => s
  | n + 1, s => State.ticks n s.tick

/-- The block out of reset with the parameters `p` and the events `evs` to come, in any number and order (R12). -/
def State.boot (p : Params) (evs : List Event) : State := { State.resetWith p with inq := evs }

/-- Events that neither end the session nor turn the loop off (R192). -/
def Event.keepsLoop : Event → Bool
  | .rst | .txerr => false
  | .tick => true
  | .cmd w =>
    match decodeCommand w with
    | .ok .stop | .ok .loopoff => false
    | _ => true

/-- The outcome is a next state equal to `t` but for the codec's working registers and the free-value counter, which
hold no information between events (R32 to R34). -/
def NextUpToWork (o : Host.Outcome State Fault Refusal) (t : State) : Prop :=
  ∃ u, o = .next u ∧ u = { t with acc := u.acc, nbits := u.nbits, bufs := u.bufs, freeIdx := u.freeIdx }

/-- The word is refused as an illegal encoding, in every state: one response, and no other change (R90, R219). -/
def AnswersIllegal (w : CmdWord) : Prop :=
  ∀ (s : State) (rest : List Event), s.inq = .cmd w :: rest →
    step s = .next { s with inq := rest, rsp := s.rsp ++ [⟨.illegalCmd, 0⟩] }

/-- Of the words with operation code `op`, the one with all other bits 0 is the command `i`; the rest are refused as
illegal encodings (R90). -/
def BareWordOnly (op : Nat) (i : Instr) : Prop :=
  ∀ w : CmdWord, (w.extractLsb' 28 4).toNat = op →
    if w.extractLsb' 0 28 = 0 then decodeCommand w = .ok i else AnswersIllegal w

/-- The working registers after the first `k` channels of a PACK (R116, R118). -/
def packPrefix (v : ChannelSet) (k : Nat) : PackRegs := (v.toList.take k).foldl PackRegs.channel PackRegs.start

end Sys2Proof.Machine
end

