-- ==== Sys2Proof/Certificates/Slice0/Obligations.lean ====
section
/-! DEFINITION. The statements for the provers, from the spec's numbered rules. An equation with a record update says
the result and the frame at once: every field not named is unchanged. -/

open Sys2Proof Sys2Proof.Machine

/-! ## Encodings (30_encoding) -/

/-- R85, R88, R89: decoding the word of a well-formed instruction gives it back; the one header that is two rows, a
control frame for identifier 1 with a zero payload, is read as the priming frame (log entry 7, the model's choice). -/
def Obligations.DecodeOfEncode : Prop :=
  (∀ i : Instr, WellFormed i = true → i ≠ .frameControl 1 → decode (encode i) = .ok i) ∧
    decode (encode (.frameControl 1)) = .ok .framePriming

/-- R88 to R90: a word that decodes is the encoding of a well-formed instruction, so no bit is ignored. -/
def Obligations.EncodeOfDecode : Prop :=
  ∀ (w : CmdWord) (i : Instr), decode w = .ok i → WellFormed i = true ∧ encode i = w

/-- R89: a word is a legal command exactly when it matches a row of the command table, the row is that of the
instruction it decodes to, and the rows are disjoint. -/
def Obligations.CommandWordMatchesExactlyOneRow : Prop :=
  (∀ w : CmdWord, (∃ i, decodeCommand w = .ok i) ↔ ∃ r ∈ commandRows, r.Matches w) ∧
    (∀ (w : CmdWord) (i : Instr), decodeCommand w = .ok i → i.row ∈ commandRows ∧ i.row.Matches w) ∧
    commandRows.Pairwise (fun a b => ∀ w : CmdWord, ¬(a.Matches w ∧ b.Matches w))

/-- R90, R161, R216: exactly the words of R90's list are illegal, and each is answered `ILLEGAL_CMD`, in every state,
with no change of state. -/
def Obligations.IllegalWordIsAnsweredIllegalCmd : Prop :=
  ∀ w : CmdWord,
    let op := (w.extractLsb' 28 4).toNat
    let illegal := 0xA ≤ op ∨ w.extractLsb' 24 4 ≠ 0 ∨
      ((op = 0 ∨ op = 5 ∨ op = 6 ∨ op = 7 ∨ op = 8 ∨ op = 9) ∧ w.extractLsb' 16 8 ≠ 0) ∨
      ((op = 0 ∨ op = 2 ∨ op = 3 ∨ op = 5 ∨ op = 6 ∨ op = 7 ∨ op = 8 ∨ op = 9) ∧ w.extractLsb' 0 16 ≠ 0) ∨
      (op = 4 ∧ w.extractLsb' 18 6 ≠ 0)
    (illegal ↔ ¬∃ i, decodeCommand w = .ok i) ∧
      (illegal → AnswersIllegal w)

/-- R94, R89 and V40: words written out from the encoding table decode to the commands they stand for. -/
def Obligations.WrittenOutWordsDecode : Prop :=
  decodeCommand 0x100203E8 = .ok (.setch 2 1000) ∧ decodeCommand 0x1003FF9C = .ok (.setch 3 (-100)) ∧
    decodeCommand 0x20030000 = .ok (.getch 3) ∧ decodeCommand 0x300F0000 = .ok (.selp 15) ∧
    decodeCommand 0x40030001 = .ok (.start 3 1) ∧ decodeCommand 0x50000000 = .ok .send ∧
    decode 0x55190000 = .ok (.frameControl 25) ∧ decode 0x55990000 = .ok (.frameBind 25) ∧
    decode 0x57190000 = .ok (.frameFailsafe 25)

/-- R85: a built frame is read as its own kind by the patterns of the table, but for the control frame for identifier 1
with a zero payload, whose bytes are those of the priming frame: the model reads it as PRIMING (log entry 7, the model's
choice). -/
def Obligations.BuiltFramesFitTheirPattern : Prop :=
  ∀ (pid : BitVec 7) (v : ChannelSet),
    (¬(pid = 1 ∧ ∀ k, (h : k < 22) → (pack v)[k] = 0) → decodeFrame (buildControl pid v) = .ok (.frameControl pid)) ∧
    ((∀ k, (h : k < 22) → (pack v)[k] = 0) → decodeFrame (buildControl 1 v) = .ok .framePriming) ∧
    decodeFrame (buildBind pid v) = .ok (.frameBind pid) ∧
    decodeFrame buildPriming = .ok .framePriming ∧
    decodeFrame (buildFailsafe pid) = .ok (.frameFailsafe pid)

/-- R92, with the encoding of SEQ of R22: the fields of the STATUS word are the five registers, in every state; R91 in
part: the response word holds the code, 0 to 4, in bits 19:16 and the data in bits 15:0; R95 in part: GETP. -/
def Obligations.StatusAndResponseWordsHoldTheirFields : Prop :=
  (∀ s : State,
    (s.statusWord.extractLsb' 0 3).toNat =
      (match s.seq with | .idle => 0 | .priming => 1 | .bind => 2 | .failsafe => 3 | .streaming => 4 | .fault => 7) ∧
    s.statusWord.extractLsb' 3 4 = s.cnt ∧
    s.statusWord.getLsbD 7 = s.loop ∧ s.statusWord.getLsbD 8 = s.protoV ∧
    s.statusWord.extractLsb' 9 7 = s.proto ∧ getpOf s.statusWord = s.proto) ∧
  (∀ p : Params, (State.resetWith p).statusWord = 0x0080) ∧
  ∀ r : Response, (r.word.extractLsb' 16 4).toNat =
      (match r.code with
        | .ok => 0 | .configError => 1 | .stateError => 2 | .transportError => 3 | .illegalCmd => 4) ∧
    r.word.extractLsb' 0 16 = r.data

/-! ## Codec (40_codec) -/

/-- R110, R111: ENCODE is the clamp with both bounds inclusive, the scale rounded down, and the ceiling, for every
integer; its result fits 11 bits; a channel register is read as two's complement. -/
def Obligations.EncodeClampsScalesAndSaturates : Prop :=
  (∀ p : Int, clampPulse p = if p < 860 then 860 else if 2140 < p then 2140 else p) ∧
    (∀ p : Int, ∃ s : Int, 5 * s ≤ (clampPulse p - 860) * 8 ∧ (clampPulse p - 860) * 8 < 5 * (s + 1) ∧
      encodeInt p = (if s ≤ 2047 then s else 2047)) ∧
    (∀ p : Int, 0 ≤ encodeInt p ∧ encodeInt p ≤ 2047 ∧ ((encodePulse p).toNat : Int) = encodeInt p) ∧
    ∀ v : Pulse, ((registerCode v).toNat : Int) = encodeInt v.toInt

/-- R112 to R114, in what the spec marks as derived and what the source states as properties: the scaled value as the
unique integer with `5 s ≤ 8 (c − 860) < 5 s + 5` and its ranges; the one input the ceiling changes; the properties of
ENCODE over all integers; the codes that are never produced; the selected values. -/
def Obligations.EncodeProperties : Prop :=
    (∀ c : Int, 860 ≤ c → c ≤ 2140 → 5 * scalePulse c ≤ 8 * (c - 860) ∧ 8 * (c - 860) < 5 * scalePulse c + 5 ∧
      0 ≤ scalePulse c ∧ scalePulse c ≤ 2048 ∧ 8 * (c - 860) ≤ 10240 ∧ 8 * (c - 860) % 5 = 3 * (c - 860) % 5 ∧
      (scalePulse c = 2048 ↔ c = 2140)) ∧
    (∀ v : Int, v < 860 → encodeInt v = 0) ∧ (∀ v : Int, v > 2140 → encodeInt v = 2047) ∧
    encodeInt 860 = 0 ∧ encodeInt 2140 = 2047 ∧
    (∀ v w : Int, v ≤ w → encodeInt v ≤ encodeInt w) ∧
    (∀ v w : Int, 860 ≤ v → v < w → w ≤ 2140 → encodeInt v < encodeInt w) ∧
    (∀ c : Int, (∃ p, encodeInt p = c) ↔ 0 ≤ c ∧ c ≤ 2047 ∧ (c % 8 = 2 ∨ c % 8 = 5 ∨ c % 8 = 7 → c = 2047)) ∧
    [861, 862, 863, 864, 865, 866, 870, 1000, 1499, 1500, 1501, 1520, 2000, 2138, 2139].map encodeInt =
      [1, 3, 4, 6, 8, 9, 16, 224, 1022, 1024, 1025, 1056, 1824, 2044, 2046]

/-- R117, which the spec marks as derived: the bit accumulator computes the closed form, for every ChannelSet, and byte `k` is made of the codes of the
channels `8 k / 11` and the next. -/
def Obligations.PackIsTheClosedForm : Prop :=
  ∀ v : ChannelSet, pack v = packClosed v ∧
    ∀ k, (h : k < 22) →
      let code : Nat → Nat := fun i => if h : i < 16 then (registerCode v[i]).toNat else 0
      let a := 8 * k / 11
      (pack v)[k].toNat = ((code a >>> (8 * k - 11 * a)) ||| (code (a + 1) <<< (11 * (a + 1) - 8 * k))) % 256

/-- R120: unpacking a packed payload gives back the sixteen codes. -/
def Obligations.UnpackOfPack : Prop :=
  ∀ (v : ChannelSet) (i : Nat) (h : i < 16), (unpack (pack v))[i] = registerCode v[i]

/-- R60: bit `j` of the code of channel `i` is bit `(11 i + j) mod 8` of payload byte `floor((11 i + j) / 8)`; the
payload as one little-endian number is the sum of the codes at their places. -/
def Obligations.PackIsLeastSignificantBitFirst : Prop :=
  ∀ v : ChannelSet,
    (∀ (i : Nat) (h : i < 16) (j : Nat) (hj : j < 11),
      (pack v)[(11 * i + j) / 8].getLsbD ((11 * i + j) % 8) = (registerCode v[i]).getLsbD j) ∧
    payloadNumber (pack v) = packedNumber v

/-- R121, which the spec marks as derived: changing one channel changes no payload bit outside its own field. -/
def Obligations.PackFieldsAreIsolated : Prop :=
  ∀ (v : ChannelSet) (i : Fin 16) (p : Pulse) (g : Nat), g < 176 → g / 11 ≠ i.val →
    payloadBit (pack (v.set i p)) g = payloadBit (pack v) g

/-- R32, and R118, which the spec marks as derived: the bits buffered after each insertion and each drain, the bytes written, the bound of the accumulator,
and that its bits above `NBITS` are 0, for every ChannelSet. -/
def Obligations.PackAccumulatorBounds : Prop :=
  ∀ (v : ChannelSet) (k : Nat) (h : k < 16),
    let r := (packPrefix v k).insert (registerCode v[k])
    let d := packPrefix v (k + 1)
    some r.nbits.toNat = [11, 14, 17, 12, 15, 18, 13, 16, 11, 14, 17, 12, 15, 18, 13, 16][k]? ∧
    some d.nbits.toNat = [3, 6, 1, 4, 7, 2, 5, 0, 3, 6, 1, 4, 7, 2, 5, 0][k]? ∧
    some d.outpos.toNat = [1, 2, 4, 5, 6, 8, 9, 11, 12, 13, 15, 16, 17, 19, 20, 22][k]? ∧
    r.acc.toNat < 2 ^ r.nbits.toNat ∧ d.acc.toNat < 2 ^ d.nbits.toNat

/-! ## Frame builders (41_frame_builder) -/

/-- R80 to R84, R131, R132, R134: every byte of a control, bind and failsafe-setup frame. -/
def Obligations.BuildersGiveTheirBytes : Prop :=
  ∀ (pid : BitVec 7) (v : ChannelSet),
    (buildControl pid v).toList = [0x55, pid.setWidth 8, 0x00, 0x00] ++ (pack v).toList ∧
    (buildBind pid v).toList = [0x55, pid.setWidth 8 ||| 0x80, 0x00, 0x00] ++ (pack v).toList ∧
    (buildFailsafe pid).toList = [0x57, pid.setWidth 8, 0x00, 0x00] ++ List.replicate 22 0x00 ∧
    buildPriming.toList = [0x55, 0x01, 0x00, 0x00] ++ List.replicate 22 0x00 ∧
    (buildControl pid v)[1].msb = false ∧ (buildBind pid v)[1].msb = true ∧
    (buildBind pid v)[1].setWidth 7 = pid ∧ (buildFailsafe pid)[1].msb = false

/-- R133, in the sentence the spec marks as derived: the priming frame is the control frame for identifier 1 of any ChannelSet with no value above 860. -/
def Obligations.PrimingIsControlOneWithAllChannelsLow : Prop :=
  ∀ v : ChannelSet, (∀ i, (h : i < 16) → v[i].toInt ≤ 860) → buildPriming = buildControl 1 v

/-- R136, which the spec marks as derived: a bind frame is the control frame with bit 7 of byte 1 set; a failsafe-setup frame is the control frame with
all codes 0 and byte 0 replaced. -/
def Obligations.BindIsControlWithTheFlag : Prop :=
  ∀ (pid : BitVec 7) (v : ChannelSet),
    buildBind pid v = (buildControl pid v).set 1 ((buildControl pid v)[1] ||| 0x80) ∧
    ((∀ i, (h : i < 16) → registerCode v[i] = 0) → buildFailsafe pid = (buildControl pid v).set 0 0x57)

/-- R86: a frame of one of the four kinds has no other header, no reserved byte set, and as a `0x57` frame neither the
bind flag nor a non-zero payload; so has every frame sent from a state the invariant holds of. -/
def Obligations.FramesSentHaveTheFrameShape : Prop :=
  ∀ s : State, Inv s → ∀ f ∈ s.tx, FrameShape f

/-- R131 to R134, R138: each frame row builds its frame from its operand and the channel registers and hands it over,
changing nothing else. -/
def Obligations.FrameRowsHandOverTheirFrame : Prop :=
  ∀ (pid : BitVec 7) (s : State),
    NextUpToWork (exec (.frameControl pid) s) { s with tx := s.tx ++ [buildControl pid s.ch] } ∧
    NextUpToWork (exec (.frameBind pid) s) { s with tx := s.tx ++ [buildBind pid s.ch] } ∧
    NextUpToWork (exec .framePriming s) { s with tx := s.tx ++ [buildPriming] } ∧
    NextUpToWork (exec (.frameFailsafe pid) s) { s with tx := s.tx ++ [buildFailsafe pid] }

/-- R138, R97, with the frame rows as instructions (log entry 6, the model's choice): every frame that a step sends is
that of the row of the state reached, with `pid` = PROTO; a slot that emits, whether it stays in its state or hands over,
START with its first slot, SEND, and LOOPON turning the loop on in STREAMING, are each that row, then the registers of
the slot or command; and in the slots that stay in their state these registers are as listed. -/
def Obligations.SlotsRunTheFrameRows : Prop :=
  (∀ s t : State, step s = .next t → t.tx ≠ s.tx →
    ∃ i u, t.seq.frameRow s.proto = some i ∧ exec i s = .next u ∧ t.tx = u.tx) ∧
  (∀ s : State, s.slotT = 1 → s.seq.inSession = true → (s.tick.seq ≠ .streaming ∨ s.loop = true) →
    ∃ i u, s.tick.seq.frameRow s.proto = some i ∧ exec i s = .next u ∧
      s.tick = { u with seq := s.tick.seq, cnt := s.tick.cnt, slotT := s.tick.slotT,
                        bindElapsed := s.tick.bindElapsed }) ∧
  (∀ (s t : State) (flags : BitVec 8) (secs : BitVec 16), WellFormed (.start flags secs) = true →
    s.seq = .idle → s.protoV = true → exec (.start flags secs) s = .next t → (t.seq ≠ .streaming ∨ s.loop = true) →
    ∃ i u, t.seq.frameRow s.proto = some i ∧ exec i s = .next u ∧
      t = { u with seq := t.seq, cnt := t.cnt, slotT := t.slotT, bindElapsed := 0, bindEn := t.bindEn, fsEn := t.fsEn,
                   bindLimit := t.bindLimit, rsp := t.rsp }) ∧
  (∀ s : State, s.seq = .streaming → ∃ u, exec (.frameControl s.proto) s = .next u ∧
    exec .send s = .next { u with slotT := if s.loop = true then s.par.streamPeriodMs else s.slotT,
                                  rsp := s.rsp ++ [⟨.ok, 0⟩] } ∧
    (s.loop = false → exec .loopon s =
      .next { u with loop := true, slotT := s.par.streamPeriodMs, rsp := s.rsp ++ [⟨.ok, 0⟩] })) ∧
  ∀ s : State, s.slotT = 1 →
    (s.seq = .streaming → s.loop = true → ∃ u, exec (.frameControl s.proto) s = .next u ∧
      s.tick = { u with slotT := s.par.streamPeriodMs }) ∧
    (s.seq = .priming → s.cnt.toNat < 10 → ∃ u, exec .framePriming s = .next u ∧
      s.tick = { u with cnt := s.cnt + 1, slotT := 50 }) ∧
    (s.seq = .failsafe → s.cnt.toNat < 10 → ∃ u, exec (.frameFailsafe s.proto) s = .next u ∧
      s.tick = { u with cnt := s.cnt + 1, slotT := 50 }) ∧
    (s.seq = .bind → s.bindElapsed.toNat + 1 < s.bindLimit.toNat → ∃ u, exec (.frameBind s.proto) s = .next u ∧
      s.tick = { u with bindElapsed := s.bindElapsed + 1, slotT := 50 })

/-! ## Commands (42_commands) -/

/-- R12, R54, R150: a CMD event whose word decodes runs that command on the state with the event taken. -/
def Obligations.StepRunsTheDecodedCommand : Prop :=
  ∀ (s : State) (w : CmdWord) (rest : List Event) (i : Instr),
    s.inq = .cmd w :: rest → decodeCommand w = .ok i →
      WellFormed i = true ∧ i.isCommand = true ∧ step s = exec i { s with inq := rest }

/-- R151: NOP. -/
def Obligations.NopOnlyResponds : Prop :=
  BareWordOnly 0 .nop ∧ ∀ s : State, exec .nop s = .next { s with rsp := s.rsp ++ [⟨.ok, 0⟩] }

/-- R152: SETCH writes one register, raw, in every state but FAULT; the index 16 to 255 is a ConfigurationError. -/
def Obligations.SetchWritesOneChannel : Prop :=
  (∀ w : CmdWord, (w.extractLsb' 28 4).toNat = 1 →
    if w.extractLsb' 24 4 = 0 then decodeCommand w = .ok (.setch (w.extractLsb' 16 8) (w.extractLsb' 0 16))
    else AnswersIllegal w) ∧
  ∀ (s : State) (idx : BitVec 8) (val : Pulse),
    (s.seq ≠ .fault → (h : idx.toNat < 16) →
      exec (.setch idx val) s = .next { s with ch := s.ch.set idx.toNat val, rsp := s.rsp ++ [⟨.ok, 0⟩] }) ∧
    (s.seq ≠ .fault → 16 ≤ idx.toNat →
      exec (.setch idx val) s = .next { s with rsp := s.rsp ++ [⟨.configError, 0⟩] }) ∧
    (s.seq = .fault → exec (.setch idx val) s = .next { s with rsp := s.rsp ++ [⟨.transportError, 0⟩] })

/-- R153, R21: GETCH answers the raw register in every state, FAULT included, and changes nothing. -/
def Obligations.GetchReadsTheRawChannel : Prop :=
  (∀ w : CmdWord, (w.extractLsb' 28 4).toNat = 2 →
    if w.extractLsb' 24 4 = 0 ∧ w.extractLsb' 0 16 = 0 then decodeCommand w = .ok (.getch (w.extractLsb' 16 8))
    else AnswersIllegal w) ∧
  ∀ (s : State) (idx : BitVec 8),
    ((h : idx.toNat < 16) → exec (.getch idx) s = .next { s with rsp := s.rsp ++ [⟨.ok, s.ch[idx.toNat]⟩] }) ∧
    (16 ≤ idx.toNat → exec (.getch idx) s = .next { s with rsp := s.rsp ++ [⟨.configError, 0⟩] })

/-- R21, R152, R153, R212: what SETCH wrote, whatever it is, GETCH gives back unclamped; the other registers keep
theirs. -/
def Obligations.GetchAfterSetch : Prop :=
  ∀ (s t : State) (idx j : BitVec 8) (val : Pulse), s.seq ≠ .fault → idx.toNat < 16 → (hj : j.toNat < 16) →
    exec (.setch idx val) s = .next t →
      exec (.getch j) t =
        .next { t with rsp := t.rsp ++ [⟨.ok, if j = idx then val else s.ch[j.toNat]⟩] }

/-- R154: SELP selects a protocol of `PROTO_SET`, in IDLE only; the state check comes before the operand check. -/
def Obligations.SelpSelectsTheProtocol : Prop :=
  (∀ w : CmdWord, (w.extractLsb' 28 4).toNat = 3 →
    if w.extractLsb' 24 4 = 0 ∧ w.extractLsb' 0 16 = 0 then decodeCommand w = .ok (.selp (w.extractLsb' 16 8))
    else AnswersIllegal w) ∧
  ∀ (s : State) (id : BitVec 8),
    (∀ p ∈ s.par.protoSet, s.seq = .idle → id.toNat = p.toNat →
      exec (.selp id) s = .next { s with proto := p, protoV := true, rsp := s.rsp ++ [⟨.ok, 0⟩] }) ∧
    (s.seq = .idle → (∀ p ∈ s.par.protoSet, id.toNat ≠ p.toNat) →
      exec (.selp id) s = .next { s with rsp := s.rsp ++ [⟨.configError, 0⟩] }) ∧
    (s.seq.inSession = true → exec (.selp id) s = .next { s with rsp := s.rsp ++ [⟨.stateError, 0⟩] }) ∧
    (s.seq = .fault → exec (.selp id) s = .next { s with rsp := s.rsp ++ [⟨.transportError, 0⟩] })

/-- R155: START begins a session; its first slot is inside the event. -/
def Obligations.StartBeginsTheSession : Prop :=
  (∀ w : CmdWord, (w.extractLsb' 28 4).toNat = 4 →
    if w.extractLsb' 24 4 = 0 ∧ w.extractLsb' 18 6 = 0 then
      decodeCommand w = .ok (.start (w.extractLsb' 16 8) (w.extractLsb' 0 16))
    else AnswersIllegal w) ∧
  ∀ (s : State) (flags : BitVec 8) (secs : BitVec 16), WellFormed (.start flags secs) = true →
    let begun : State := { s with
      bindEn := flags.getLsbD 0, fsEn := flags.getLsbD 1, bindLimit := BitVec.ofNat 26 (secs.toNat * 1000),
      bindElapsed := 0, cnt := 0, rsp := s.rsp ++ [⟨.ok, 0⟩] }
    (s.seq = .idle → s.protoV = true →
      (s.par.primeAlways = true ∨ flags.getLsbD 0 = true →
        NextUpToWork (exec (.start flags secs) s)
          { begun with seq := .priming, cnt := 1, slotT := 50, tx := s.tx ++ [buildPriming] }) ∧
      (s.par.primeAlways = false → flags.getLsbD 0 = false → flags.getLsbD 1 = true →
        NextUpToWork (exec (.start flags secs) s)
          { begun with seq := .failsafe, cnt := 1, slotT := 50, tx := s.tx ++ [buildFailsafe s.proto] }) ∧
      (s.par.primeAlways = false → flags.getLsbD 0 = false → flags.getLsbD 1 = false →
        (s.loop = true → NextUpToWork (exec (.start flags secs) s)
          { begun with seq := .streaming, slotT := s.par.streamPeriodMs,
                       tx := s.tx ++ [buildControl s.proto s.ch] }) ∧
        (s.loop = false → NextUpToWork (exec (.start flags secs) s)
          { begun with seq := .streaming, slotT := 0 }))) ∧
    (s.seq = .idle → s.protoV = false →
      exec (.start flags secs) s = .next { s with rsp := s.rsp ++ [⟨.configError, 0⟩] }) ∧
    (s.seq.inSession = true →
      exec (.start flags secs) s = .next { s with rsp := s.rsp ++ [⟨.stateError, 0⟩] }) ∧
    (s.seq = .fault → exec (.start flags secs) s = .next { s with rsp := s.rsp ++ [⟨.transportError, 0⟩] })

/-- R156: SEND emits one control frame, in STREAMING only, and restarts the period when the loop is on. -/
def Obligations.SendEmitsOneControlFrame : Prop :=
  BareWordOnly 5 .send ∧ ∀ s : State,
    (s.seq = .streaming → NextUpToWork (exec .send s)
      { s with tx := s.tx ++ [buildControl s.proto s.ch], rsp := s.rsp ++ [⟨.ok, 0⟩],
               slotT := if s.loop = true then s.par.streamPeriodMs else s.slotT }) ∧
    (s.seq = .idle ∨ s.seq.inBurst = true →
      exec .send s = .next { s with rsp := s.rsp ++ [⟨.stateError, 0⟩] }) ∧
    (s.seq = .fault → exec .send s = .next { s with rsp := s.rsp ++ [⟨.transportError, 0⟩] })

/-- R157: LOOPON sets LOOP; turning it on in STREAMING emits a control frame at once and starts the period. -/
def Obligations.LooponTurnsTheLoopOn : Prop :=
  BareWordOnly 6 .loopon ∧ ∀ s : State,
    (s.seq ≠ .fault → s.loop = true → exec .loopon s = .next { s with rsp := s.rsp ++ [⟨.ok, 0⟩] }) ∧
    (s.seq = .streaming → s.loop = false → NextUpToWork (exec .loopon s)
      { s with loop := true, tx := s.tx ++ [buildControl s.proto s.ch], slotT := s.par.streamPeriodMs,
               rsp := s.rsp ++ [⟨.ok, 0⟩] }) ∧
    (s.seq ≠ .streaming → s.seq ≠ .fault → s.loop = false →
      exec .loopon s = .next { s with loop := true, rsp := s.rsp ++ [⟨.ok, 0⟩] }) ∧
    (s.seq = .fault → exec .loopon s = .next { s with rsp := s.rsp ++ [⟨.transportError, 0⟩] })

/-- R158: LOOPOFF clears LOOP and, in STREAMING, stops the slot timer; it emits nothing. -/
def Obligations.LoopoffTurnsTheLoopOff : Prop :=
  BareWordOnly 7 .loopoff ∧ ∀ s : State,
    (s.seq = .streaming →
      exec .loopoff s = .next { s with loop := false, slotT := 0, rsp := s.rsp ++ [⟨.ok, 0⟩] }) ∧
    (s.seq ≠ .streaming → s.seq ≠ .fault →
      exec .loopoff s = .next { s with loop := false, rsp := s.rsp ++ [⟨.ok, 0⟩] }) ∧
    (s.seq = .fault → exec .loopoff s = .next { s with rsp := s.rsp ++ [⟨.transportError, 0⟩] })

/-- R159: STOP goes to IDLE, clears CNT, SLOT_T and BIND_ELAPSED, keeps everything else and emits nothing. -/
def Obligations.StopEndsTheSession : Prop :=
  BareWordOnly 8 .stop ∧ ∀ s : State,
    (s.seq ≠ .fault → exec .stop s = .next
      { s with seq := .idle, cnt := 0, slotT := 0, bindElapsed := 0, rsp := s.rsp ++ [⟨.ok, 0⟩] }) ∧
    (s.seq = .fault → exec .stop s = .next { s with rsp := s.rsp ++ [⟨.transportError, 0⟩] })

/-- R160: STATUS answers the status word in every state, FAULT included, and changes nothing. -/
def Obligations.StatusOnlyResponds : Prop :=
  BareWordOnly 9 .status ∧ ∀ s : State, exec .status s = .next { s with rsp := s.rsp ++
      [⟨.ok, (s.proto.setWidth 16 <<< 9) ||| ((if s.protoV then 1 else 0) <<< 8) |||
        ((if s.loop then 1 else 0) <<< 7) ||| (s.cnt.setWidth 16 <<< 3) ||| s.seq.code.setWidth 16⟩] }

/-- R217, in the checks of R150, R211, R213 and R215: a command is refused with the code of the first check that fails,
the decoder's first of all, and a refused command changes nothing but the response stream; if no check fails it is
answered OK. -/
def Obligations.FirstFailingCheckIsReported : Prop :=
  (∀ w : CmdWord, (∀ i, decodeCommand w ≠ .ok i) → AnswersIllegal w) ∧
  ∀ (i : Instr) (s : State), i.isCommand = true → WellFormed i = true →
    (∀ c, i.firstFailure s = some c → exec i s = .next { s with rsp := s.rsp ++ [⟨c, 0⟩] }) ∧
    (i.firstFailure s = none → ∃ t d, exec i s = .next t ∧ t.rsp = s.rsp ++ [⟨.ok, d⟩])

/-- R67, which the spec marks as derived: NOP, GETCH and STATUS change no state; SETCH, SELP, LOOPON, LOOPOFF and STOP issued twice leave the state of
issuing them once (no second frame); SEND emits a frame each time; a second START is refused. -/
def Obligations.CommandsAreIdempotentButSendAndStart : Prop :=
  (∀ (i : Instr) (s t : State), (i = .nop ∨ i = .status ∨ ∃ idx, i = .getch idx) → exec i s = .next t →
    t = { s with rsp := t.rsp }) ∧
  (∀ (i : Instr) (s t u : State), (i = .loopon ∨ i = .loopoff ∨ i = .stop ∨ (∃ id, i = .selp id) ∨
      ∃ idx val, i = .setch idx val) → exec i s = .next t → exec i t = .next u → u = { t with rsp := u.rsp }) ∧
  (∀ s t u : State, s.seq = .streaming → exec .send s = .next t → exec .send t = .next u →
    u.tx = s.tx ++ [buildControl s.proto s.ch, buildControl s.proto s.ch]) ∧
  (∀ (flags : BitVec 8) (secs : BitVec 16) (s t : State), WellFormed (.start flags secs) = true →
    s.seq = .idle → s.protoV = true → exec (.start flags secs) s = .next t →
      exec (.start flags secs) t = .next { t with rsp := t.rsp ++ [⟨.stateError, 0⟩] })

/-- R66, R70, R135: a SETCH is seen by the very next control frame, with nothing in between. -/
def Obligations.SendAfterSetchCarriesTheNewValue : Prop :=
  ∀ (s t u : State) (idx : BitVec 8) (val : Pulse) (h : idx.toNat < 16), s.seq = .streaming →
    exec (.setch idx val) s = .next t → exec .send t = .next u →
      u.tx = s.tx ++ [buildControl s.proto (s.ch.set idx.toNat val)]

/-! ## Sequencer (43_sequencer) -/

/-- R183: a TICK that is no slot counts the two timers and does nothing else. -/
def Obligations.TickCountsBetweenSlots : Prop :=
  ∀ (s : State) (rest : List Event), s.inq = .tick :: rest → s.slotT ≠ 1 →
    step s = .next { s with
      inq := rest
      slotT := if s.slotT = 0 then 0 else s.slotT - 1
      bindElapsed := if s.seq = .bind ∧ s.bindElapsed.toNat < 2 ^ 26 - 1 then s.bindElapsed + 1 else s.bindElapsed }

/-- R185: the slot in PRIMING, with the first action of the state it hands over to. -/
def Obligations.PrimingSlot : Prop :=
  ∀ (s : State) (rest : List Event), s.inq = .tick :: rest → s.slotT = 1 → s.seq = .priming →
    (s.cnt.toNat < 10 → NextUpToWork (step s)
      { s with inq := rest, tx := s.tx ++ [buildPriming], cnt := s.cnt + 1, slotT := 50 }) ∧
    (10 ≤ s.cnt.toNat → s.bindEn = true → 0 < s.bindLimit.toNat → NextUpToWork (step s)
      { s with inq := rest, seq := .bind, cnt := 0, bindElapsed := 0, slotT := 50,
               tx := s.tx ++ [buildBind s.proto s.ch] }) ∧
    (10 ≤ s.cnt.toNat → s.bindEn = true → s.bindLimit = 0 → NextUpToWork (step s)
      { s with inq := rest, seq := .failsafe, cnt := 1, bindElapsed := 0, slotT := 50,
               tx := s.tx ++ [buildFailsafe s.proto] }) ∧
    (10 ≤ s.cnt.toNat → s.bindEn = false → s.fsEn = true → NextUpToWork (step s)
      { s with inq := rest, seq := .failsafe, cnt := 1, slotT := 50, tx := s.tx ++ [buildFailsafe s.proto] }) ∧
    (10 ≤ s.cnt.toNat → s.bindEn = false → s.fsEn = false →
      (s.loop = true → NextUpToWork (step s)
        { s with inq := rest, seq := .streaming, cnt := 0, slotT := s.par.streamPeriodMs,
                 tx := s.tx ++ [buildControl s.proto s.ch] }) ∧
      (s.loop = false → NextUpToWork (step s)
        { s with inq := rest, seq := .streaming, cnt := 0, slotT := 0 }))

/-- R186: the slot in BIND; the elapsed time counts the TICK of the slot itself. -/
def Obligations.BindSlot : Prop :=
  ∀ (s : State) (rest : List Event), s.inq = .tick :: rest → s.slotT = 1 → s.seq = .bind →
    s.bindElapsed.toNat < 2 ^ 26 - 1 →
    (s.bindElapsed.toNat + 1 < s.bindLimit.toNat → NextUpToWork (step s)
      { s with inq := rest, bindElapsed := s.bindElapsed + 1, slotT := 50,
               tx := s.tx ++ [buildBind s.proto s.ch] }) ∧
    (s.bindLimit.toNat ≤ s.bindElapsed.toNat + 1 → NextUpToWork (step s)
      { s with inq := rest, bindElapsed := s.bindElapsed + 1, seq := .failsafe, cnt := 1, slotT := 50,
               tx := s.tx ++ [buildFailsafe s.proto] })

/-- R187, R188: the slot in FAILSAFE, and entering STREAMING. -/
def Obligations.FailsafeSlot : Prop :=
  ∀ (s : State) (rest : List Event), s.inq = .tick :: rest → s.slotT = 1 → s.seq = .failsafe →
    (s.cnt.toNat < 10 → NextUpToWork (step s)
      { s with inq := rest, tx := s.tx ++ [buildFailsafe s.proto], cnt := s.cnt + 1, slotT := 50 }) ∧
    (10 ≤ s.cnt.toNat → s.loop = true → NextUpToWork (step s)
      { s with inq := rest, seq := .streaming, cnt := 0, slotT := s.par.streamPeriodMs,
               tx := s.tx ++ [buildControl s.proto s.ch] }) ∧
    (10 ≤ s.cnt.toNat → s.loop = false → NextUpToWork (step s)
      { s with inq := rest, seq := .streaming, cnt := 0, slotT := 0 })

/-- R189: the slot in STREAMING. -/
def Obligations.StreamingSlot : Prop :=
  ∀ (s : State) (rest : List Event), s.inq = .tick :: rest → s.slotT = 1 → s.seq = .streaming →
    (s.loop = true → NextUpToWork (step s)
      { s with inq := rest, slotT := s.par.streamPeriodMs, tx := s.tx ++ [buildControl s.proto s.ch] }) ∧
    (s.loop = false → NextUpToWork (step s) { s with inq := rest, slotT := 0 })

/-- R181: every arrow of the transition graph is taken when its cause arrives, and SEQ changes along no other. -/
def Obligations.SequencerFollowsTheTransitionGraph : Prop :=
  (∀ (s t : State), step s = .next t → t.seq ≠ s.seq →
    ∃ e rest, s.inq = e :: rest ∧ ArrowTo s e t.seq) ∧
  ∀ (s : State) (e : Event) (rest : List Event) (dst : SeqState), s.inq = e :: rest → ArrowTo s e dst →
    ∃ t, step s = .next t ∧ t.seq = dst

/-- R185, and R191, which the spec marks as derived: from the first frame of the priming burst on, the frames leave every 50 ms, the state is held for 500 ms
and the next state acts in the slot that ends it. -/
def Obligations.PrimingBurstTakes500Ticks : Prop :=
  ∀ s : State, s.seq = .priming → s.cnt = 1 → s.slotT = 50 →
    (∀ k j : Nat, k ≤ 9 → j < 50 →
      let t := State.ticks (50 * k + j) s
      t.seq = .priming ∧ t.cnt.toNat = k + 1 ∧ t.slotT.toNat = 50 - j ∧
        t.tx = s.tx ++ List.replicate k buildPriming) ∧
    (s.bindEn = true → 0 < s.bindLimit.toNat →
      (State.ticks 500 s).seq = .bind ∧ (State.ticks 500 s).bindElapsed = 0 ∧ (State.ticks 500 s).slotT = 50 ∧
      (State.ticks 500 s).tx = s.tx ++ List.replicate 9 buildPriming ++ [buildBind s.proto s.ch]) ∧
    (s.bindEn = true → s.bindLimit = 0 →
      (State.ticks 500 s).seq = .failsafe ∧ (State.ticks 500 s).cnt = 1 ∧ (State.ticks 500 s).slotT = 50 ∧
      (State.ticks 500 s).bindElapsed = 0 ∧
      (State.ticks 500 s).tx = s.tx ++ List.replicate 9 buildPriming ++ [buildFailsafe s.proto]) ∧
    (s.bindEn = false → s.fsEn = true →
      (State.ticks 500 s).seq = .failsafe ∧ (State.ticks 500 s).cnt = 1 ∧ (State.ticks 500 s).slotT = 50 ∧
      (State.ticks 500 s).tx = s.tx ++ List.replicate 9 buildPriming ++ [buildFailsafe s.proto]) ∧
    (s.bindEn = false → s.fsEn = false → s.loop = true →
      (State.ticks 500 s).seq = .streaming ∧ (State.ticks 500 s).slotT = s.par.streamPeriodMs ∧
      (State.ticks 500 s).tx = s.tx ++ List.replicate 9 buildPriming ++ [buildControl s.proto s.ch]) ∧
    (s.bindEn = false → s.fsEn = false → s.loop = false →
      (State.ticks 500 s).seq = .streaming ∧ (State.ticks 500 s).cnt = 0 ∧ (State.ticks 500 s).slotT = 0 ∧
      (State.ticks 500 s).tx = s.tx ++ List.replicate 9 buildPriming)

/-- R186, and R191, which the spec marks as derived: with a duration of `secs` seconds BIND is held for exactly `1000 secs` TICKs, a bind frame leaves every
50 of them, `20 secs` in all with the one already sent, and the first failsafe-setup frame leaves at the end. -/
def Obligations.BindLastsExactlyItsDuration : Prop :=
  ∀ (s : State) (secs : Nat), 1 ≤ secs → secs ≤ 65535 → s.seq = .bind → s.bindElapsed = 0 → s.slotT = 50 →
    s.bindLimit.toNat = 1000 * secs →
    (∀ k j : Nat, j < 50 → 50 * k + j < 1000 * secs →
      let t := State.ticks (50 * k + j) s
      t.seq = .bind ∧ t.bindElapsed.toNat = 50 * k + j ∧ t.slotT.toNat = 50 - j ∧
        t.tx = s.tx ++ List.replicate k (buildBind s.proto s.ch)) ∧
    (let t := State.ticks (1000 * secs) s;
      t.seq = .failsafe ∧ t.cnt = 1 ∧ t.slotT = 50 ∧ t.bindElapsed.toNat = 1000 * secs ∧
        t.tx = s.tx ++ List.replicate (20 * secs - 1) (buildBind s.proto s.ch) ++ [buildFailsafe s.proto])

/-- R191, which the spec marks as derived: the frames and times of a whole session begun by START, and no other event
but TICK, for each kind of session, with either value of `PRIME_ALWAYS` and of LOOP. The burst frames leave one every 50
TICKs from START on, and STREAMING is entered, with its first control frame if LOOP is on, when they are over. -/
def Obligations.SessionScheduleOfFrames : Prop :=
  ∀ (s u : State) (flags : BitVec 8) (secs : BitVec 16), WellFormed (.start flags secs) = true →
    s.seq = .idle → s.protoV = true → exec (.start flags secs) s = .next u →
    let bind := flags.getLsbD 0
    let primed := s.par.primeAlways || bind
    let failsafe := bind || flags.getLsbD 1
    let bursts : List Frame :=
      (if primed then List.replicate 10 buildPriming else []) ++
      (if bind then List.replicate (20 * secs.toNat) (buildBind s.proto s.ch) else []) ++
      (if failsafe then List.replicate 10 (buildFailsafe s.proto) else [])
    let streamingAt := (if primed then 500 else 0) + (if bind then 1000 * secs.toNat else 0) +
      (if failsafe then 500 else 0)
    (∀ j, j < streamingAt →
      (State.ticks j u).seq.inBurst = true ∧ (State.ticks j u).tx = s.tx ++ bursts.take (j / 50 + 1)) ∧
    (State.ticks streamingAt u).seq = .streaming ∧ (State.ticks streamingAt u).cnt = 0 ∧
    (State.ticks streamingAt u).slotT = (if s.loop = true then s.par.streamPeriodMs else 0) ∧
    (State.ticks streamingAt u).tx =
      s.tx ++ bursts ++ (if s.loop = true then [buildControl s.proto s.ch] else [])

/-- R188, R189, and R191, which the spec marks as derived: in STREAMING with the loop on and no command, a control frame leaves every `STREAM_PERIOD_MS`
TICKs, without end. -/
def Obligations.StreamingSendsOneFramePerPeriod : Prop :=
  ∀ (s : State) (k j : Nat), s.seq = .streaming → s.loop = true → s.slotT = s.par.streamPeriodMs →
    j < s.par.streamPeriodMs.toNat →
      let t := State.ticks (s.par.streamPeriodMs.toNat * k + j) s
      t.seq = .streaming ∧ t.slotT.toNat = s.par.streamPeriodMs.toNat - j ∧
        t.tx = s.tx ++ List.replicate k (buildControl s.proto s.ch)

/-- R192, which the spec marks as derived: while the session streams with the loop on, whatever commands arrive, every stretch of events that holds
`STREAM_PERIOD_MS` TICKs (at most 70) sends a control frame. -/
def Obligations.LoopKeepsTheDeadline : Prop :=
  ∀ (n : Nat) (s t : State), Inv s → s.seq = .streaming → s.loop = true →
    (∀ e ∈ s.inq.take n, e.keepsLoop = true) → Host.Core.run Sys2Proof.core n s = .next t →
      t.seq = .streaming ∧ t.loop = true ∧ s.par.streamPeriodMs.toNat ≤ 70 ∧
      (∃ sent, t.tx = s.tx ++ sent ∧ ∀ f ∈ sent, ∃ v, f = buildControl s.proto v) ∧
      (s.par.streamPeriodMs.toNat ≤ (s.inq.take n).count Event.tick → s.tx.length < t.tx.length)

/-- R195, R249: in the burst states no command emits a frame and SEND is refused. -/
def Obligations.NoCommandEmitsDuringABurst : Prop :=
  ∀ s : State, s.seq.inBurst = true →
    exec .send s = .next { s with rsp := s.rsp ++ [⟨.stateError, 0⟩] } ∧
    ∀ (t : State) (w : CmdWord) (rest : List Event), s.inq = .cmd w :: rest → step s = .next t → t.tx = s.tx

/-- R195: in IDLE and FAULT nothing is sent, but for the first frame of a session that START begins in IDLE. -/
def Obligations.NothingIsSentInIdleOrFault : Prop :=
  ∀ s t : State, s.seq.inSession = false → step s = .next t → t.tx ≠ s.tx →
    s.seq = .idle ∧ s.protoV = true ∧
      ∃ w rest flags secs, s.inq = .cmd w :: rest ∧ decodeCommand w = .ok (.start flags secs)

/-! ## Errors, events, reset (60_exceptions, 70_reset_and_hazards) -/

/-- R220: TXERR stops the session and freezes everything else, in every state; no frame leaves until reset. -/
def Obligations.TransportErrorEntersFault : Prop :=
  ∀ (s : State) (rest : List Event), s.inq = .txerr :: rest →
    step s = .next { s with inq := rest, seq := .fault, terr := true, slotT := 0 } ∧
    ∀ (n : Nat) (t : State), (∀ e ∈ rest.take n, e ≠ .rst) →
      Host.Core.run Sys2Proof.core (n + 1) s = .next t → t.tx = s.tx

/-- R221: in a state the invariant holds of, however many events arrive, without RST the block stays in FAULT, sends
nothing and keeps every register, SLOT_T at 0 and TERR at 1; STOP does not leave it; RST does, and clears TERR. The
second clause says of every state in FAULT, reachable or not, what of this it keeps: all but SLOT_T and a clear TERR. -/
def Obligations.FaultIsLeftOnlyByReset : Prop :=
  (∀ (n : Nat) (s t : State), Inv s → s.seq = .fault → (∀ e ∈ s.inq.take n, e ≠ .rst) →
    Host.Core.run Sys2Proof.core n s = .next t →
      t = { s with inq := s.inq.drop n, rsp := t.rsp } ∧ t.slotT = 0 ∧ t.terr = true) ∧
  (∀ (n : Nat) (s t : State), s.seq = .fault → (∀ e ∈ s.inq.take n, e ≠ .rst) →
    Host.Core.run Sys2Proof.core n s = .next t →
      ∃ left : BitVec 7, t = { s with inq := s.inq.drop n, rsp := t.rsp, terr := t.terr, slotT := left } ∧
        (s.terr = true → t.terr = true)) ∧
  (∀ s : State, s.seq = .fault → exec .stop s = .next { s with rsp := s.rsp ++ [⟨.transportError, 0⟩] }) ∧
  (∀ (s : State) (rest : List Event), s.inq = .rst :: rest →
    ∃ t, step s = .next t ∧ t.seq = .idle ∧ t.terr = false)

/-- R218, as log entry 14 models it: in one cycle RST comes first and discards the others; a TXERR with a slot TICK prevents that slot's frame; a
SETCH with a slot TICK is not in that slot's frame. -/
def Obligations.EventsOfOneCycleAreOrdered : Prop :=
  (∀ c : Cycle, c.rst = true → c.events = [.rst]) ∧
  (∀ (s : State) (c : Cycle), s.inq = [] → c.rst = false → c.txerr = true → c.tick = true → c.cmd = none →
    ∃ t, Host.Core.run Sys2Proof.core 2 (s.arrive c) = .next t ∧ t.inq = [] ∧ t.tx = s.tx ∧ t.seq = .fault) ∧
  (∀ (s : State) (c : Cycle) (idx : BitVec 8) (val : Pulse) (h : idx.toNat < 16), s.inq = [] → c.rst = false →
    c.txerr = false → c.tick = true → c.cmd = some (encode (.setch idx val)) →
    s.seq = .streaming → s.loop = true → s.slotT = 1 →
    ∃ t, Host.Core.run Sys2Proof.core 2 (s.arrive c) = .next t ∧
      t.tx = s.tx ++ [buildControl s.proto s.ch] ∧ t.ch = s.ch.set idx.toNat val)

/-- R36: the value of every piece of state after reset, for every parameter set. -/
def Obligations.ResetValues : Prop :=
  ∀ p : Params,
    (∀ i, (h : i < 16) → (State.resetWith p).ch[i] = p.chReset) ∧
    (State.resetWith p).seq = .idle ∧ (State.resetWith p).cnt = 0 ∧ (State.resetWith p).slotT = 0 ∧
    (State.resetWith p).bindElapsed = 0 ∧ (State.resetWith p).bindLimit = 0 ∧ (State.resetWith p).proto = 0 ∧
    (State.resetWith p).protoV = false ∧ (State.resetWith p).loop = true ∧ (State.resetWith p).bindEn = false ∧
    (State.resetWith p).fsEn = false ∧ (State.resetWith p).terr = false ∧ (State.resetWith p).acc = 0 ∧
    (State.resetWith p).nbits = 0 ∧ (State.resetWith p).bufs.outpos = 0 ∧
    (State.resetWith p).statusWord = 0x0080#16

/-- R240: RST puts every register to its reset value whatever the state before, and emits no frame and no response. -/
def Obligations.ResetEventRestoresEveryRegister : Prop :=
  ∀ (s : State) (rest : List Event), s.inq = .rst :: rest →
    ∃ t, step s = .next t ∧ t = { State.resetWith s.par with
      bufs := t.bufs, freeIdx := s.freeIdx, inq := rest, rsp := s.rsp, tx := s.tx } ∧ t.bufs.outpos = 0

/-! ## The whole machine -/

/-- R12, R219: every state steps to a next state: no event and no word stops the block; with no event it waits (log
entry 3, the model's choice); R222, which the spec marks as derived: a TXERR in FAULT changes nothing. -/
def Obligations.StepAlwaysAnswersANextState : Prop :=
  (∀ s : State, ∃ t, step s = .next t) ∧ (∀ s : State, s.inq = [] → step s = .next s) ∧
    ∀ (s : State) (rest : List Event), Inv s → s.seq = .fault → s.inq = .txerr :: rest →
      step s = .next { s with inq := rest }

/-- R12, R55, R56: a CMD event makes exactly one response, RST, TXERR and TICK none; no event makes more than one
frame; what was sent stays sent; the event is consumed and the parameters do not change. -/
def Obligations.OutputsOfOneEvent : Prop :=
  ∀ (s t : State) (e : Event) (rest : List Event), s.inq = e :: rest → step s = .next t →
    t.inq = rest ∧ t.par = s.par ∧
    (t.tx = s.tx ∨ ∃ f, t.tx = s.tx ++ [f]) ∧
    ((∃ w, e = .cmd w) → ∃ r, t.rsp = s.rsp ++ [r]) ∧
    ((∀ w, e ≠ .cmd w) → t.rsp = s.rsp)

/-- R21: a channel register is written only by SETCH and by reset. -/
def Obligations.OnlySetchAndResetWriteChannels : Prop :=
  ∀ (s t : State), step s = .next t → t.ch ≠ s.ch →
    ∃ rest, s.inq = .rst :: rest ∨ ∃ w idx val, s.inq = .cmd w :: rest ∧
      decodeCommand w = .ok (.setch idx val) ∧ ∃ h : idx.toNat < 16, t.ch = s.ch.set idx.toNat val

/-- R27, R250: PROTO is written only by SELP in IDLE and by reset: in a session it does not change. -/
def Obligations.ProtocolIsImmutableInASession : Prop :=
  ∀ (s t : State), step s = .next t → (t.proto ≠ s.proto ∨ t.protoV ≠ s.protoV) →
    ∃ rest, s.inq = .rst :: rest ∨
      (s.seq = .idle ∧ t.protoV = true ∧ t.proto ∈ s.par.protoSet ∧
        ∃ w id, s.inq = .cmd w :: rest ∧ decodeCommand w = .ok (.selp id) ∧ id.toNat = t.proto.toNat)

/-- R35, which the spec marks as derived: the invariant holds after reset, for every legal parameter set, whatever events are to come. -/
def Obligations.ResetHoldsTheInvariant : Prop :=
  ∀ (p : Params) (evs : List Event), p.Legal → Inv (State.boot p evs)

/-- R35, which the spec marks as derived: every step keeps the invariant, in every state it holds of. -/
def Obligations.StepKeepsTheInvariant : Prop :=
  ∀ s t : State, Inv s → step s = .next t → Inv t

/-- R35, items 1 to 9, which the spec marks as derived, in every state reached from reset by any events in any order, for every legal parameter set. -/
def Obligations.EveryReachableStateMeetsTheInvariants : Prop :=
  ∀ (p : Params) (evs : List Event) (n : Nat) (t : State), p.Legal →
    Host.Core.run Sys2Proof.core n (State.boot p evs) = .next t →
      Inv t ∧ (t.seq = .bind → t.bindElapsed.toNat < t.bindLimit.toNat + 50 ∧ t.bindElapsed.toNat ≤ 65535049) ∧
        max 50 t.par.streamPeriodMs.toNat ≤ 70
end

