-- ==== Sys2Proof/Laws/Decode.lean ====
section
/-! SUPPORT. The fields of command words and of frame headers: reading back what was put together, and putting
together what was read. -/

namespace Sys2Proof

theorem cmdWord_op (op : BitVec 4) (a : BitVec 8) (d : BitVec 16) : CmdWord.op (cmdWord op a d) = op := by
  apply BitVec.eq_of_getLsbD_eq
  intro k hk
  simp only [cmdWord, CmdWord.op, BitVec.getLsbD_append, BitVec.getLsbD_extractLsb']
  interval_cases k <;> simp

theorem cmdWord_rsv (op : BitVec 4) (a : BitVec 8) (d : BitVec 16) : CmdWord.rsv (cmdWord op a d) = 0 := by
  apply BitVec.eq_of_getLsbD_eq
  intro k hk
  simp only [cmdWord, CmdWord.rsv, BitVec.getLsbD_append, BitVec.getLsbD_extractLsb']
  interval_cases k <;> simp

theorem cmdWord_arg8 (op : BitVec 4) (a : BitVec 8) (d : BitVec 16) : CmdWord.arg8 (cmdWord op a d) = a := by
  apply BitVec.eq_of_getLsbD_eq
  intro k hk
  simp only [cmdWord, CmdWord.arg8, BitVec.getLsbD_append, BitVec.getLsbD_extractLsb']
  interval_cases k <;> simp

theorem cmdWord_data16 (op : BitVec 4) (a : BitVec 8) (d : BitVec 16) : CmdWord.data16 (cmdWord op a d) = d := by
  apply BitVec.eq_of_getLsbD_eq
  intro k hk
  simp only [cmdWord, CmdWord.data16, BitVec.getLsbD_append, BitVec.getLsbD_extractLsb']
  interval_cases k <;> simp

/-- A word with `rsv = 0` is the word of its fields. -/
theorem cmdWord_of_fields (w : CmdWord) (h : CmdWord.rsv w = 0) :
    cmdWord (CmdWord.op w) (CmdWord.arg8 w) (CmdWord.data16 w) = w := by
  have hb := fun j => congrArg (fun b => b.getLsbD j) h
  have h0 := hb 0
  have h1 := hb 1
  have h2 := hb 2
  have h3 := hb 3
  clear hb h
  apply BitVec.eq_of_getLsbD_eq
  intro k hk
  simp only [cmdWord, CmdWord.op, CmdWord.rsv, CmdWord.arg8, CmdWord.data16, BitVec.getLsbD_append,
    BitVec.getLsbD_extractLsb'] at *
  interval_cases k <;> simp_all

theorem headerWord_byte0 (b0 b1 : Byte) : (headerWord b0 b1).extractLsb' 24 8 = b0 := by
  apply BitVec.eq_of_getLsbD_eq
  intro k hk
  simp only [headerWord, BitVec.getLsbD_append, BitVec.getLsbD_extractLsb']
  interval_cases k <;> simp

theorem headerWord_byte1 (b0 b1 : Byte) : (headerWord b0 b1).extractLsb' 16 8 = b1 := by
  apply BitVec.eq_of_getLsbD_eq
  intro k hk
  simp only [headerWord, BitVec.getLsbD_append, BitVec.getLsbD_extractLsb']
  interval_cases k <;> simp

theorem headerWord_byte2 (b0 b1 : Byte) : (headerWord b0 b1).extractLsb' 8 8 = 0 := by
  apply BitVec.eq_of_getLsbD_eq
  intro k hk
  simp only [headerWord, BitVec.getLsbD_append, BitVec.getLsbD_extractLsb']
  interval_cases k <;> simp

theorem headerWord_byte3 (b0 b1 : Byte) : (headerWord b0 b1).extractLsb' 0 8 = 0 := by
  apply BitVec.eq_of_getLsbD_eq
  intro k hk
  simp only [headerWord, BitVec.getLsbD_append, BitVec.getLsbD_extractLsb']
  interval_cases k <;> simp

/-- The header bits of a frame stand where a command word has `rsv`. -/
theorem headerWord_rsv (b0 b1 : Byte) : CmdWord.rsv (headerWord b0 b1) = b0.extractLsb' 0 4 := by
  apply BitVec.eq_of_getLsbD_eq
  intro k hk
  simp only [headerWord, CmdWord.rsv, BitVec.getLsbD_append, BitVec.getLsbD_extractLsb']
  interval_cases k <;> simp

/-- A word whose low two bytes are 0 is the header of its high two. -/
theorem headerWord_of_bytes (w : CmdWord) (h2 : w.extractLsb' 8 8 = 0) (h3 : w.extractLsb' 0 8 = 0) :
    headerWord (w.extractLsb' 24 8) (w.extractLsb' 16 8) = w := by
  have a2 := fun j => congrArg (fun b => b.getLsbD j) h2
  have a3 := fun j => congrArg (fun b => b.getLsbD j) h3
  have b0 := a3 0
  have b1 := a3 1
  have b2 := a3 2
  have b3 := a3 3
  have b4 := a3 4
  have b5 := a3 5
  have b6 := a3 6
  have b7 := a3 7
  have c0 := a2 0
  have c1 := a2 1
  have c2 := a2 2
  have c3 := a2 3
  have c4 := a2 4
  have c5 := a2 5
  have c6 := a2 6
  have c7 := a2 7
  clear a2 a3 h2 h3
  apply BitVec.eq_of_getLsbD_eq
  intro k hk
  simp only [headerWord, BitVec.getLsbD_append, BitVec.getLsbD_extractLsb'] at *
  interval_cases k <;> simp_all

end Sys2Proof
end

