-- ==== Sys2Proof/Laws/Frame.lean ====
section
/-! SUPPORT. The bytes of a frame, one lemma per place, so that no proof takes a frame apart. -/

namespace Sys2Proof.Machine

/-- The bytes of a frame as a list. -/
theorem frameOf_toList (hdr sel : Byte) (p : Payload) :
    (frameOf hdr sel p).toList = [hdr, sel, 0, 0] ++ p.toList := rfl

/-- `HDR`. -/
@[simp] theorem frameOf_hdr (hdr sel : Byte) (p : Payload) : (frameOf hdr sel p)[0] = hdr := rfl

/-- `SEL`. -/
@[simp] theorem frameOf_sel (hdr sel : Byte) (p : Payload) : (frameOf hdr sel p)[1] = sel := rfl

/-- `RSV0`. -/
@[simp] theorem frameOf_rsv0 (hdr sel : Byte) (p : Payload) : (frameOf hdr sel p)[2] = 0 := rfl

/-- `RSV1`. -/
@[simp] theorem frameOf_rsv1 (hdr sel : Byte) (p : Payload) : (frameOf hdr sel p)[3] = 0 := rfl

/-- Payload byte `k` is frame byte `4 + k`. -/
theorem frameOf_payload (hdr sel : Byte) (p : Payload) (k : Nat) (h : k < 22) :
    (frameOf hdr sel p)[4 + k] = p[k] := by
  have e : (frameOf hdr sel p).toList[4 + k]'(by simp; omega) = p.toList[k]'(by simpa using h) := by
    simp [frameOf_toList, Nat.add_comm 4 k]
  simpa using e

/-- Two frames are equal when their headers and payloads are. -/
theorem frameOf_congr {h h' s s' : Byte} {p p' : Payload} (e1 : h = h') (e2 : s = s') (e3 : p = p') :
    frameOf h s p = frameOf h' s' p' := by
  rw [e1, e2, e3]

/-- Setting the first byte of a frame. -/
theorem frameOf_set_hdr (hdr sel b : Byte) (p : Payload) : (frameOf hdr sel p).set 0 b = frameOf b sel p := rfl

/-- Setting the second byte of a frame. -/
theorem frameOf_set_sel (hdr sel b : Byte) (p : Payload) : (frameOf hdr sel p).set 1 b = frameOf hdr b p := rfl

/-- The payload bytes of a frame, as decodeFrame looks at them. -/
theorem frameOf_drop (hdr sel : Byte) (p : Payload) : (frameOf hdr sel p).toList.drop 4 = p.toList := by
  rw [frameOf_toList]
  rfl

end Sys2Proof.Machine
end

