-- ==== Sys2Proof/Laws/State.lean ====
section
/-! SUPPORT. One lemma per field for each update of the state, true by rfl, so that no proof unfolds an update. -/

namespace Sys2Proof.Machine

/-- `respond(OK, 0)` is a response. -/
@[simp] theorem State.done_eq (s : State) : s.done = s.respond .ok 0 := rfl

/-- Refusing a command is a response with data 0. -/
@[simp] theorem State.refuse_eq (s : State) (c : RspCode) : s.refuse c = s.respond c 0 := rfl

/-! `State.respond`. -/

@[simp] theorem State.respond_ch (s : State) (c : RspCode) (d : BitVec 16) : (s.respond c d).ch = s.ch := rfl
@[simp] theorem State.respond_seq (s : State) (c : RspCode) (d : BitVec 16) : (s.respond c d).seq = s.seq := rfl
@[simp] theorem State.respond_cnt (s : State) (c : RspCode) (d : BitVec 16) : (s.respond c d).cnt = s.cnt := rfl
@[simp] theorem State.respond_slotT (s : State) (c : RspCode) (d : BitVec 16) : (s.respond c d).slotT = s.slotT := rfl
@[simp] theorem State.respond_bindElapsed (s : State) (c : RspCode) (d : BitVec 16) :
    (s.respond c d).bindElapsed = s.bindElapsed := rfl
@[simp] theorem State.respond_bindLimit (s : State) (c : RspCode) (d : BitVec 16) :
    (s.respond c d).bindLimit = s.bindLimit := rfl
@[simp] theorem State.respond_proto (s : State) (c : RspCode) (d : BitVec 16) : (s.respond c d).proto = s.proto := rfl
@[simp] theorem State.respond_protoV (s : State) (c : RspCode) (d : BitVec 16) :
    (s.respond c d).protoV = s.protoV := rfl
@[simp] theorem State.respond_loop (s : State) (c : RspCode) (d : BitVec 16) : (s.respond c d).loop = s.loop := rfl
@[simp] theorem State.respond_bindEn (s : State) (c : RspCode) (d : BitVec 16) :
    (s.respond c d).bindEn = s.bindEn := rfl
@[simp] theorem State.respond_fsEn (s : State) (c : RspCode) (d : BitVec 16) : (s.respond c d).fsEn = s.fsEn := rfl
@[simp] theorem State.respond_terr (s : State) (c : RspCode) (d : BitVec 16) : (s.respond c d).terr = s.terr := rfl
@[simp] theorem State.respond_acc (s : State) (c : RspCode) (d : BitVec 16) : (s.respond c d).acc = s.acc := rfl
@[simp] theorem State.respond_nbits (s : State) (c : RspCode) (d : BitVec 16) : (s.respond c d).nbits = s.nbits := rfl
@[simp] theorem State.respond_bufs (s : State) (c : RspCode) (d : BitVec 16) : (s.respond c d).bufs = s.bufs := rfl
@[simp] theorem State.respond_freeIdx (s : State) (c : RspCode) (d : BitVec 16) :
    (s.respond c d).freeIdx = s.freeIdx := rfl
@[simp] theorem State.respond_par (s : State) (c : RspCode) (d : BitVec 16) : (s.respond c d).par = s.par := rfl
@[simp] theorem State.respond_inq (s : State) (c : RspCode) (d : BitVec 16) : (s.respond c d).inq = s.inq := rfl
@[simp] theorem State.respond_rsp (s : State) (c : RspCode) (d : BitVec 16) :
    (s.respond c d).rsp = s.rsp ++ [⟨c, d⟩] := rfl
@[simp] theorem State.respond_tx (s : State) (c : RspCode) (d : BitVec 16) : (s.respond c d).tx = s.tx := rfl

/-! `State.takeTransportError`. -/

@[simp] theorem State.takeTransportError_ch (s : State) : (s.takeTransportError).ch = s.ch := rfl
@[simp] theorem State.takeTransportError_seq (s : State) : (s.takeTransportError).seq = .fault := rfl
@[simp] theorem State.takeTransportError_cnt (s : State) : (s.takeTransportError).cnt = s.cnt := rfl
@[simp] theorem State.takeTransportError_slotT (s : State) : (s.takeTransportError).slotT = 0 := rfl
@[simp] theorem State.takeTransportError_bindElapsed (s : State) :
    (s.takeTransportError).bindElapsed = s.bindElapsed := rfl
@[simp] theorem State.takeTransportError_bindLimit (s : State) : (s.takeTransportError).bindLimit = s.bindLimit := rfl
@[simp] theorem State.takeTransportError_proto (s : State) : (s.takeTransportError).proto = s.proto := rfl
@[simp] theorem State.takeTransportError_protoV (s : State) : (s.takeTransportError).protoV = s.protoV := rfl
@[simp] theorem State.takeTransportError_loop (s : State) : (s.takeTransportError).loop = s.loop := rfl
@[simp] theorem State.takeTransportError_bindEn (s : State) : (s.takeTransportError).bindEn = s.bindEn := rfl
@[simp] theorem State.takeTransportError_fsEn (s : State) : (s.takeTransportError).fsEn = s.fsEn := rfl
@[simp] theorem State.takeTransportError_terr (s : State) : (s.takeTransportError).terr = true := rfl
@[simp] theorem State.takeTransportError_acc (s : State) : (s.takeTransportError).acc = s.acc := rfl
@[simp] theorem State.takeTransportError_nbits (s : State) : (s.takeTransportError).nbits = s.nbits := rfl
@[simp] theorem State.takeTransportError_bufs (s : State) : (s.takeTransportError).bufs = s.bufs := rfl
@[simp] theorem State.takeTransportError_freeIdx (s : State) : (s.takeTransportError).freeIdx = s.freeIdx := rfl
@[simp] theorem State.takeTransportError_par (s : State) : (s.takeTransportError).par = s.par := rfl
@[simp] theorem State.takeTransportError_inq (s : State) : (s.takeTransportError).inq = s.inq := rfl
@[simp] theorem State.takeTransportError_rsp (s : State) : (s.takeTransportError).rsp = s.rsp := rfl
@[simp] theorem State.takeTransportError_tx (s : State) : (s.takeTransportError).tx = s.tx := rfl

/-! `State.applyReset`. -/

@[simp] theorem State.applyReset_ch (s : State) : (s.applyReset).ch = Vector.replicate 16 s.par.chReset := rfl
@[simp] theorem State.applyReset_seq (s : State) : (s.applyReset).seq = .idle := rfl
@[simp] theorem State.applyReset_cnt (s : State) : (s.applyReset).cnt = 0 := rfl
@[simp] theorem State.applyReset_slotT (s : State) : (s.applyReset).slotT = 0 := rfl
@[simp] theorem State.applyReset_bindElapsed (s : State) : (s.applyReset).bindElapsed = 0 := rfl
@[simp] theorem State.applyReset_bindLimit (s : State) : (s.applyReset).bindLimit = 0 := rfl
@[simp] theorem State.applyReset_proto (s : State) : (s.applyReset).proto = 0 := rfl
@[simp] theorem State.applyReset_protoV (s : State) : (s.applyReset).protoV = false := rfl
@[simp] theorem State.applyReset_loop (s : State) : (s.applyReset).loop = true := rfl
@[simp] theorem State.applyReset_bindEn (s : State) : (s.applyReset).bindEn = false := rfl
@[simp] theorem State.applyReset_fsEn (s : State) : (s.applyReset).fsEn = false := rfl
@[simp] theorem State.applyReset_terr (s : State) : (s.applyReset).terr = false := rfl
@[simp] theorem State.applyReset_acc (s : State) : (s.applyReset).acc = 0 := rfl
@[simp] theorem State.applyReset_nbits (s : State) : (s.applyReset).nbits = 0 := rfl
@[simp] theorem State.applyReset_bufs (s : State) : (s.applyReset).bufs = { s.bufs with outpos := 0 } := rfl
@[simp] theorem State.applyReset_freeIdx (s : State) : (s.applyReset).freeIdx = s.freeIdx := rfl
@[simp] theorem State.applyReset_par (s : State) : (s.applyReset).par = s.par := rfl
@[simp] theorem State.applyReset_inq (s : State) : (s.applyReset).inq = s.inq := rfl
@[simp] theorem State.applyReset_rsp (s : State) : (s.applyReset).rsp = s.rsp := rfl
@[simp] theorem State.applyReset_tx (s : State) : (s.applyReset).tx = s.tx := rfl

/-! `State.setChannel`. -/

@[simp] theorem State.setChannel_ch (s : State) (i : Fin 16) (v : Pulse) : (s.setChannel i v).ch = s.ch.set i v := rfl
@[simp] theorem State.setChannel_seq (s : State) (i : Fin 16) (v : Pulse) : (s.setChannel i v).seq = s.seq := rfl
@[simp] theorem State.setChannel_cnt (s : State) (i : Fin 16) (v : Pulse) : (s.setChannel i v).cnt = s.cnt := rfl
@[simp] theorem State.setChannel_slotT (s : State) (i : Fin 16) (v : Pulse) :
    (s.setChannel i v).slotT = s.slotT := rfl
@[simp] theorem State.setChannel_bindElapsed (s : State) (i : Fin 16) (v : Pulse) :
    (s.setChannel i v).bindElapsed = s.bindElapsed := rfl
@[simp] theorem State.setChannel_bindLimit (s : State) (i : Fin 16) (v : Pulse) :
    (s.setChannel i v).bindLimit = s.bindLimit := rfl
@[simp] theorem State.setChannel_proto (s : State) (i : Fin 16) (v : Pulse) :
    (s.setChannel i v).proto = s.proto := rfl
@[simp] theorem State.setChannel_protoV (s : State) (i : Fin 16) (v : Pulse) :
    (s.setChannel i v).protoV = s.protoV := rfl
@[simp] theorem State.setChannel_loop (s : State) (i : Fin 16) (v : Pulse) : (s.setChannel i v).loop = s.loop := rfl
@[simp] theorem State.setChannel_bindEn (s : State) (i : Fin 16) (v : Pulse) :
    (s.setChannel i v).bindEn = s.bindEn := rfl
@[simp] theorem State.setChannel_fsEn (s : State) (i : Fin 16) (v : Pulse) : (s.setChannel i v).fsEn = s.fsEn := rfl
@[simp] theorem State.setChannel_terr (s : State) (i : Fin 16) (v : Pulse) : (s.setChannel i v).terr = s.terr := rfl
@[simp] theorem State.setChannel_acc (s : State) (i : Fin 16) (v : Pulse) : (s.setChannel i v).acc = s.acc := rfl
@[simp] theorem State.setChannel_nbits (s : State) (i : Fin 16) (v : Pulse) :
    (s.setChannel i v).nbits = s.nbits := rfl
@[simp] theorem State.setChannel_bufs (s : State) (i : Fin 16) (v : Pulse) : (s.setChannel i v).bufs = s.bufs := rfl
@[simp] theorem State.setChannel_freeIdx (s : State) (i : Fin 16) (v : Pulse) :
    (s.setChannel i v).freeIdx = s.freeIdx := rfl
@[simp] theorem State.setChannel_par (s : State) (i : Fin 16) (v : Pulse) : (s.setChannel i v).par = s.par := rfl
@[simp] theorem State.setChannel_inq (s : State) (i : Fin 16) (v : Pulse) : (s.setChannel i v).inq = s.inq := rfl
@[simp] theorem State.setChannel_rsp (s : State) (i : Fin 16) (v : Pulse) : (s.setChannel i v).rsp = s.rsp := rfl
@[simp] theorem State.setChannel_tx (s : State) (i : Fin 16) (v : Pulse) : (s.setChannel i v).tx = s.tx := rfl

/-! `State.selectProtocol`. -/

@[simp] theorem State.selectProtocol_ch (s : State) (p : BitVec 7) : (s.selectProtocol p).ch = s.ch := rfl
@[simp] theorem State.selectProtocol_seq (s : State) (p : BitVec 7) : (s.selectProtocol p).seq = s.seq := rfl
@[simp] theorem State.selectProtocol_cnt (s : State) (p : BitVec 7) : (s.selectProtocol p).cnt = s.cnt := rfl
@[simp] theorem State.selectProtocol_slotT (s : State) (p : BitVec 7) : (s.selectProtocol p).slotT = s.slotT := rfl
@[simp] theorem State.selectProtocol_bindElapsed (s : State) (p : BitVec 7) :
    (s.selectProtocol p).bindElapsed = s.bindElapsed := rfl
@[simp] theorem State.selectProtocol_bindLimit (s : State) (p : BitVec 7) :
    (s.selectProtocol p).bindLimit = s.bindLimit := rfl
@[simp] theorem State.selectProtocol_proto (s : State) (p : BitVec 7) : (s.selectProtocol p).proto = p := rfl
@[simp] theorem State.selectProtocol_protoV (s : State) (p : BitVec 7) : (s.selectProtocol p).protoV = true := rfl
@[simp] theorem State.selectProtocol_loop (s : State) (p : BitVec 7) : (s.selectProtocol p).loop = s.loop := rfl
@[simp] theorem State.selectProtocol_bindEn (s : State) (p : BitVec 7) : (s.selectProtocol p).bindEn = s.bindEn := rfl
@[simp] theorem State.selectProtocol_fsEn (s : State) (p : BitVec 7) : (s.selectProtocol p).fsEn = s.fsEn := rfl
@[simp] theorem State.selectProtocol_terr (s : State) (p : BitVec 7) : (s.selectProtocol p).terr = s.terr := rfl
@[simp] theorem State.selectProtocol_acc (s : State) (p : BitVec 7) : (s.selectProtocol p).acc = s.acc := rfl
@[simp] theorem State.selectProtocol_nbits (s : State) (p : BitVec 7) : (s.selectProtocol p).nbits = s.nbits := rfl
@[simp] theorem State.selectProtocol_bufs (s : State) (p : BitVec 7) : (s.selectProtocol p).bufs = s.bufs := rfl
@[simp] theorem State.selectProtocol_freeIdx (s : State) (p : BitVec 7) :
    (s.selectProtocol p).freeIdx = s.freeIdx := rfl
@[simp] theorem State.selectProtocol_par (s : State) (p : BitVec 7) : (s.selectProtocol p).par = s.par := rfl
@[simp] theorem State.selectProtocol_inq (s : State) (p : BitVec 7) : (s.selectProtocol p).inq = s.inq := rfl
@[simp] theorem State.selectProtocol_rsp (s : State) (p : BitVec 7) : (s.selectProtocol p).rsp = s.rsp := rfl
@[simp] theorem State.selectProtocol_tx (s : State) (p : BitVec 7) : (s.selectProtocol p).tx = s.tx := rfl

/-! `State.runPack`. -/

@[simp] theorem State.runPack_ch (s : State) : (s.runPack).ch = s.ch := rfl
@[simp] theorem State.runPack_seq (s : State) : (s.runPack).seq = s.seq := rfl
@[simp] theorem State.runPack_cnt (s : State) : (s.runPack).cnt = s.cnt := rfl
@[simp] theorem State.runPack_slotT (s : State) : (s.runPack).slotT = s.slotT := rfl
@[simp] theorem State.runPack_bindElapsed (s : State) : (s.runPack).bindElapsed = s.bindElapsed := rfl
@[simp] theorem State.runPack_bindLimit (s : State) : (s.runPack).bindLimit = s.bindLimit := rfl
@[simp] theorem State.runPack_proto (s : State) : (s.runPack).proto = s.proto := rfl
@[simp] theorem State.runPack_protoV (s : State) : (s.runPack).protoV = s.protoV := rfl
@[simp] theorem State.runPack_loop (s : State) : (s.runPack).loop = s.loop := rfl
@[simp] theorem State.runPack_bindEn (s : State) : (s.runPack).bindEn = s.bindEn := rfl
@[simp] theorem State.runPack_fsEn (s : State) : (s.runPack).fsEn = s.fsEn := rfl
@[simp] theorem State.runPack_terr (s : State) : (s.runPack).terr = s.terr := rfl
@[simp] theorem State.runPack_acc (s : State) : (s.runPack).acc = (packRegs s.ch).acc := rfl
@[simp] theorem State.runPack_nbits (s : State) : (s.runPack).nbits = (packRegs s.ch).nbits := rfl
@[simp] theorem State.runPack_bufs (s : State) : (s.runPack).bufs = s.bufs := rfl
@[simp] theorem State.runPack_freeIdx (s : State) : (s.runPack).freeIdx = s.freeIdx := rfl
@[simp] theorem State.runPack_par (s : State) : (s.runPack).par = s.par := rfl
@[simp] theorem State.runPack_inq (s : State) : (s.runPack).inq = s.inq := rfl
@[simp] theorem State.runPack_rsp (s : State) : (s.runPack).rsp = s.rsp := rfl
@[simp] theorem State.runPack_tx (s : State) : (s.runPack).tx = s.tx := rfl

/-! `State.handOver`. -/

@[simp] theorem State.handOver_ch (s : State) (f : Frame) : (s.handOver f).ch = s.ch := rfl
@[simp] theorem State.handOver_seq (s : State) (f : Frame) : (s.handOver f).seq = s.seq := rfl
@[simp] theorem State.handOver_cnt (s : State) (f : Frame) : (s.handOver f).cnt = s.cnt := rfl
@[simp] theorem State.handOver_slotT (s : State) (f : Frame) : (s.handOver f).slotT = s.slotT := rfl
@[simp] theorem State.handOver_bindElapsed (s : State) (f : Frame) : (s.handOver f).bindElapsed = s.bindElapsed := rfl
@[simp] theorem State.handOver_bindLimit (s : State) (f : Frame) : (s.handOver f).bindLimit = s.bindLimit := rfl
@[simp] theorem State.handOver_proto (s : State) (f : Frame) : (s.handOver f).proto = s.proto := rfl
@[simp] theorem State.handOver_protoV (s : State) (f : Frame) : (s.handOver f).protoV = s.protoV := rfl
@[simp] theorem State.handOver_loop (s : State) (f : Frame) : (s.handOver f).loop = s.loop := rfl
@[simp] theorem State.handOver_bindEn (s : State) (f : Frame) : (s.handOver f).bindEn = s.bindEn := rfl
@[simp] theorem State.handOver_fsEn (s : State) (f : Frame) : (s.handOver f).fsEn = s.fsEn := rfl
@[simp] theorem State.handOver_terr (s : State) (f : Frame) : (s.handOver f).terr = s.terr := rfl
@[simp] theorem State.handOver_acc (s : State) (f : Frame) : (s.handOver f).acc = s.acc := rfl
@[simp] theorem State.handOver_nbits (s : State) (f : Frame) : (s.handOver f).nbits = s.nbits := rfl
@[simp] theorem State.handOver_bufs (s : State) (f : Frame) :
    (s.handOver f).bufs = Config.freeBuffers s.freeIdx := rfl
@[simp] theorem State.handOver_freeIdx (s : State) (f : Frame) : (s.handOver f).freeIdx = s.freeIdx + 1 := rfl
@[simp] theorem State.handOver_par (s : State) (f : Frame) : (s.handOver f).par = s.par := rfl
@[simp] theorem State.handOver_inq (s : State) (f : Frame) : (s.handOver f).inq = s.inq := rfl
@[simp] theorem State.handOver_rsp (s : State) (f : Frame) : (s.handOver f).rsp = s.rsp := rfl
@[simp] theorem State.handOver_tx (s : State) (f : Frame) : (s.handOver f).tx = s.tx ++ [f] := rfl

/-! `State.loadSession`. -/

@[simp] theorem State.loadSession_ch (s : State) (flags : BitVec 8) (secs : BitVec 16) :
    (s.loadSession flags secs).ch = s.ch := rfl
@[simp] theorem State.loadSession_seq (s : State) (flags : BitVec 8) (secs : BitVec 16) :
    (s.loadSession flags secs).seq = s.seq := rfl
@[simp] theorem State.loadSession_cnt (s : State) (flags : BitVec 8) (secs : BitVec 16) :
    (s.loadSession flags secs).cnt = 0 := rfl
@[simp] theorem State.loadSession_slotT (s : State) (flags : BitVec 8) (secs : BitVec 16) :
    (s.loadSession flags secs).slotT = s.slotT := rfl
@[simp] theorem State.loadSession_bindElapsed (s : State) (flags : BitVec 8) (secs : BitVec 16) :
    (s.loadSession flags secs).bindElapsed = 0 := rfl
@[simp] theorem State.loadSession_bindLimit (s : State) (flags : BitVec 8) (secs : BitVec 16) :
    (s.loadSession flags secs).bindLimit = bindLimitOf secs := rfl
@[simp] theorem State.loadSession_proto (s : State) (flags : BitVec 8) (secs : BitVec 16) :
    (s.loadSession flags secs).proto = s.proto := rfl
@[simp] theorem State.loadSession_protoV (s : State) (flags : BitVec 8) (secs : BitVec 16) :
    (s.loadSession flags secs).protoV = s.protoV := rfl
@[simp] theorem State.loadSession_loop (s : State) (flags : BitVec 8) (secs : BitVec 16) :
    (s.loadSession flags secs).loop = s.loop := rfl
@[simp] theorem State.loadSession_bindEn (s : State) (flags : BitVec 8) (secs : BitVec 16) :
    (s.loadSession flags secs).bindEn = flagBindEn flags := rfl
@[simp] theorem State.loadSession_fsEn (s : State) (flags : BitVec 8) (secs : BitVec 16) :
    (s.loadSession flags secs).fsEn = flagFsEn flags := rfl
@[simp] theorem State.loadSession_terr (s : State) (flags : BitVec 8) (secs : BitVec 16) :
    (s.loadSession flags secs).terr = s.terr := rfl
@[simp] theorem State.loadSession_acc (s : State) (flags : BitVec 8) (secs : BitVec 16) :
    (s.loadSession flags secs).acc = s.acc := rfl
@[simp] theorem State.loadSession_nbits (s : State) (flags : BitVec 8) (secs : BitVec 16) :
    (s.loadSession flags secs).nbits = s.nbits := rfl
@[simp] theorem State.loadSession_bufs (s : State) (flags : BitVec 8) (secs : BitVec 16) :
    (s.loadSession flags secs).bufs = s.bufs := rfl
@[simp] theorem State.loadSession_freeIdx (s : State) (flags : BitVec 8) (secs : BitVec 16) :
    (s.loadSession flags secs).freeIdx = s.freeIdx := rfl
@[simp] theorem State.loadSession_par (s : State) (flags : BitVec 8) (secs : BitVec 16) :
    (s.loadSession flags secs).par = s.par := rfl
@[simp] theorem State.loadSession_inq (s : State) (flags : BitVec 8) (secs : BitVec 16) :
    (s.loadSession flags secs).inq = s.inq := rfl
@[simp] theorem State.loadSession_rsp (s : State) (flags : BitVec 8) (secs : BitVec 16) :
    (s.loadSession flags secs).rsp = s.rsp := rfl
@[simp] theorem State.loadSession_tx (s : State) (flags : BitVec 8) (secs : BitVec 16) :
    (s.loadSession flags secs).tx = s.tx := rfl

end Sys2Proof.Machine
end

