-- ==== Sys2Proof/Laws/Ops.lean ====
section
/-! SUPPORT. One lemma per shared operation that says everything it can do; the provers cite these. -/

namespace Sys2Proof.Machine

/-- In FAULT a guarded command is refused. -/
theorem State.unlessFault_fault (s : State) (k : State → State) (h : s.seq = .fault) :
    s.unlessFault k = s.respond .transportError 0 := by
  simp [State.unlessFault, h]

/-- Outside FAULT a guarded command is performed. -/
theorem State.unlessFault_other (s : State) (k : State → State) (h : s.seq ≠ .fault) :
    s.unlessFault k = k s := by
  simp [State.unlessFault, h]

/-- Emitting a control frame, as one update of the state. -/
theorem State.emitControl_eq (s : State) :
    s.emitControl = { s with
      tx := s.tx ++ [buildControl s.proto s.ch]
      acc := (packRegs s.ch).acc
      nbits := (packRegs s.ch).nbits
      bufs := Config.freeBuffers s.freeIdx
      freeIdx := s.freeIdx + 1 } := rfl

/-- Emitting a bind frame, as one update of the state. -/
theorem State.emitBind_eq (s : State) :
    s.emitBind = { s with
      tx := s.tx ++ [buildBind s.proto s.ch]
      acc := (packRegs s.ch).acc
      nbits := (packRegs s.ch).nbits
      bufs := Config.freeBuffers s.freeIdx
      freeIdx := s.freeIdx + 1 } := rfl

/-- Emitting the priming frame, as one update of the state. -/
theorem State.emitPriming_eq (s : State) :
    s.emitPriming = { s with
      tx := s.tx ++ [buildPriming]
      bufs := Config.freeBuffers s.freeIdx
      freeIdx := s.freeIdx + 1 } := rfl

/-- Emitting a failsafe-setup frame, as one update of the state. -/
theorem State.emitFailsafe_eq (s : State) :
    s.emitFailsafe = { s with
      tx := s.tx ++ [buildFailsafe s.proto]
      bufs := Config.freeBuffers s.freeIdx
      freeIdx := s.freeIdx + 1 } := rfl

/-- What no slot action changes. -/
structure SlotKeeps (s t : State) : Prop where
  ch : t.ch = s.ch
  proto : t.proto = s.proto
  protoV : t.protoV = s.protoV
  loop : t.loop = s.loop
  bindEn : t.bindEn = s.bindEn
  fsEn : t.fsEn = s.fsEn
  terr : t.terr = s.terr
  bindLimit : t.bindLimit = s.bindLimit
  par : t.par = s.par
  inq : t.inq = s.inq
  rsp : t.rsp = s.rsp
  /-- At most one frame leaves, and it is one of the four kinds for the selected protocol. -/
  tx : t.tx = s.tx ∨ t.tx = s.tx ++ [buildPriming] ∨ t.tx = s.tx ++ [buildFailsafe s.proto] ∨
    t.tx = s.tx ++ [buildControl s.proto s.ch] ∨ t.tx = s.tx ++ [buildBind s.proto s.ch]

theorem State.slotStreaming_keeps (s : State) : SlotKeeps s s.slotStreaming := by
  unfold State.slotStreaming
  split <;> constructor <;> simp [State.emitControl_eq]

theorem State.enterStreaming_keeps (s : State) : SlotKeeps s s.enterStreaming := by
  have h := State.slotStreaming_keeps { s with seq := .streaming, cnt := 0 }
  exact ⟨h.ch, h.proto, h.protoV, h.loop, h.bindEn, h.fsEn, h.terr, h.bindLimit, h.par, h.inq, h.rsp, h.tx⟩

theorem State.slotFailsafe_keeps (s : State) : SlotKeeps s s.slotFailsafe := by
  unfold State.slotFailsafe
  split
  · constructor <;> simp [State.emitFailsafe_eq]
  · exact s.enterStreaming_keeps

theorem State.slotBind_keeps (s : State) : SlotKeeps s s.slotBind := by
  unfold State.slotBind
  split
  · constructor <;> simp [State.emitBind_eq]
  · have h := State.slotFailsafe_keeps { s with seq := .failsafe, cnt := 0 }
    exact ⟨h.ch, h.proto, h.protoV, h.loop, h.bindEn, h.fsEn, h.terr, h.bindLimit, h.par, h.inq, h.rsp, h.tx⟩

theorem State.slotPriming_keeps (s : State) : SlotKeeps s s.slotPriming := by
  unfold State.slotPriming
  split
  · constructor <;> simp [State.emitPriming_eq]
  · split
    · have h := State.slotBind_keeps { s with cnt := 0, seq := .bind, bindElapsed := 0 }
      exact ⟨h.ch, h.proto, h.protoV, h.loop, h.bindEn, h.fsEn, h.terr, h.bindLimit, h.par, h.inq, h.rsp, h.tx⟩
    · split
      · have h := State.slotFailsafe_keeps { s with cnt := 0, seq := .failsafe }
        exact ⟨h.ch, h.proto, h.protoV, h.loop, h.bindEn, h.fsEn, h.terr, h.bindLimit, h.par, h.inq, h.rsp, h.tx⟩
      · have h := State.enterStreaming_keeps { s with cnt := 0 }
        exact ⟨h.ch, h.proto, h.protoV, h.loop, h.bindEn, h.fsEn, h.terr, h.bindLimit, h.par, h.inq, h.rsp, h.tx⟩

/-- What any slot action keeps, and the one frame it may send. -/
theorem State.slot_keeps (s : State) : SlotKeeps s s.slot := by
  unfold State.slot
  split
  · exact s.slotPriming_keeps
  · exact s.slotBind_keeps
  · exact s.slotFailsafe_keeps
  · exact s.slotStreaming_keeps
  · constructor <;> simp
  · constructor <;> simp

/-- What counting the bind time does. -/
theorem State.countBind_eq (s : State) :
    s.countBind = { s with bindElapsed :=
      if s.seq = .bind ∧ s.bindElapsed < BitVec.allOnes 26 then s.bindElapsed + 1 else s.bindElapsed } := by
  unfold State.countBind
  split <;> rfl

/-- With the slot timer stopped, counting it does nothing. -/
theorem State.countSlot_stopped (s : State) (h : s.slotT = 0) : s.countSlot = s := if_pos h

/-- The last millisecond of the slot timer is a slot. -/
theorem State.countSlot_fires (s : State) (h : s.slotT = 1) :
    s.countSlot = State.slot { s with slotT := 0 } := by
  simp [State.countSlot, h]

/-- Before that the slot timer counts down. -/
theorem State.countSlot_counts (s : State) (h0 : s.slotT ≠ 0) (h1 : s.slotT ≠ 1) :
    s.countSlot = { s with slotT := s.slotT - 1 } := by
  unfold State.countSlot
  rw [if_neg h0, if_neg h1]

/-- What counting the slot timer keeps, and the one frame it may send. -/
theorem State.countSlot_keeps (s : State) : SlotKeeps s s.countSlot := by
  unfold State.countSlot
  split
  · constructor <;> simp
  · split
    · have h := State.slot_keeps { s with slotT := 0 }
      exact ⟨h.ch, h.proto, h.protoV, h.loop, h.bindEn, h.fsEn, h.terr, h.bindLimit, h.par, h.inq, h.rsp, h.tx⟩
    · constructor <;> simp

/-- What a TICK keeps, and the one frame it may send. -/
theorem State.tick_keeps (s : State) : SlotKeeps s s.tick := by
  have h := s.countBind.countSlot_keeps
  rw [State.countBind_eq] at h
  unfold State.tick
  rw [State.countBind_eq]
  exact ⟨h.ch, h.proto, h.protoV, h.loop, h.bindEn, h.fsEn, h.terr, h.bindLimit, h.par, h.inq, h.rsp, h.tx⟩

/-- `BIND_ELAPSED` after a TICK (R183). -/
def State.elapsedAfterTick (s : State) : BitVec 26 :=
  if s.seq = .bind ∧ s.bindElapsed < BitVec.allOnes 26 then s.bindElapsed + 1 else s.bindElapsed

/-- Outside BIND the bind time stands still. -/
theorem State.elapsedAfterTick_other {s : State} (h : s.seq ≠ .bind) : s.elapsedAfterTick = s.bindElapsed := by
  simp [State.elapsedAfterTick, h]

/-- In BIND, below saturation, the bind time grows by one. -/
theorem State.elapsedAfterTick_bind {s : State} (h : s.seq = .bind) (hb : s.bindElapsed.toNat < 2 ^ 26 - 1) :
    s.elapsedAfterTick = s.bindElapsed + 1 := by
  have h2 : s.bindElapsed < BitVec.allOnes 26 := by simpa [BitVec.lt_def] using hb
  unfold State.elapsedAfterTick
  rw [if_pos ⟨h, h2⟩]

/-- A TICK with the slot timer stopped. -/
theorem State.tick_stopped {s : State} (h : s.slotT = 0) :
    s.tick = { s with bindElapsed := s.elapsedAfterTick } := by
  unfold State.tick
  rw [State.countBind_eq, State.countSlot_stopped]
  · rfl
  · exact h

/-- A TICK that is a slot. -/
theorem State.tick_fires {s : State} (h : s.slotT = 1) :
    s.tick = State.slot { s with bindElapsed := s.elapsedAfterTick, slotT := 0 } := by
  unfold State.tick
  rw [State.countBind_eq, State.countSlot_fires]
  · rfl
  · exact h

/-- A TICK between slots. -/
theorem State.tick_counts {s : State} (h0 : s.slotT ≠ 0) (h1 : s.slotT ≠ 1) :
    s.tick = { s with bindElapsed := s.elapsedAfterTick, slotT := s.slotT - 1 } := by
  unfold State.tick
  rw [State.countBind_eq, State.countSlot_counts]
  · rfl
  · exact h0
  · exact h1

/-- One more tick, at the front of a run of ticks. -/
theorem State.ticks_succ (n : Nat) (s : State) : State.ticks (n + 1) s = State.ticks n s.tick := rfl

/-- No tick changes nothing. -/
@[simp] theorem State.ticks_zero (s : State) : State.ticks 0 s = s := rfl

/-- `n` ticks that stay short of the next slot, outside BIND. -/
theorem State.ticks_before_slot {s : State} (hs : s.seq ≠ .bind) (n : Nat) (h : n < s.slotT.toNat) :
    State.ticks n s = { s with slotT := s.slotT - BitVec.ofNat 7 n } := by
  induction n generalizing s with
  | zero => simp
  | succ n ih =>
    have h0 : s.slotT ≠ 0 := by intro hc; simp [hc] at h
    have h1 : s.slotT ≠ 1 := by intro hc; simp [hc] at h
    have hsub : (s.slotT - 1#7).toNat = s.slotT.toNat - 1 := by
      have := s.slotT.isLt
      simp [BitVec.toNat_sub]
      omega
    rw [State.ticks_succ, State.tick_counts h0 h1, State.elapsedAfterTick_other hs, ih]
    · congr 1
      show s.slotT - 1#7 - BitVec.ofNat 7 n = s.slotT - BitVec.ofNat 7 (n + 1)
      rw [BitVec.ofNat_add, BitVec.sub_sub]
      congr 1
      exact BitVec.add_comm _ _
    · exact hs
    · show n < (s.slotT - 1#7).toNat
      omega

/-- Every instruction answers a next state. -/
theorem exec_answers (i : Instr) (s : State) : ∃ t, exec i s = .next t := by
  cases i <;> exact ⟨_, rfl⟩

/-- Runs of ticks compose. -/
theorem State.ticks_add (m n : Nat) (s : State) : State.ticks (m + n) s = State.ticks n (State.ticks m s) := by
  induction m generalizing s with
  | zero => simp
  | succ m ih => rw [Nat.succ_add]; exact ih s.tick

/-- A session that starts in PRIMING. -/
theorem State.beginSession_priming {s : State} (h : s.par.primeAlways = true ∨ s.bindEn = true) :
    s.beginSession = State.slotPriming { s with seq := .priming } := if_pos h

/-- A session that starts in FAILSAFE. -/
theorem State.beginSession_failsafe {s : State} (h : ¬(s.par.primeAlways = true ∨ s.bindEn = true))
    (hf : s.fsEn = true) : s.beginSession = State.slotFailsafe { s with seq := .failsafe } := by
  unfold State.beginSession
  rw [if_neg h, if_pos hf]

/-- A session that starts in STREAMING. -/
theorem State.beginSession_streaming {s : State} (h : ¬(s.par.primeAlways = true ∨ s.bindEn = true))
    (hf : s.fsEn = false) : s.beginSession = s.enterStreaming := by
  unfold State.beginSession
  rw [if_neg h, if_neg (by simp [hf])]

/-- A START that passes all its checks. -/
theorem exec_start_accepted {s : State} {flags : BitVec 8} (secs : BitVec 16)
    (hw : WellFormed (.start flags secs) = true) (hq : s.seq = .idle) (hp : s.protoV = true) :
    exec (.start flags secs) s = .next (s.loadSession flags secs).beginSession.done := by
  have hd : startFlagsDefined flags = true := hw
  show execStart flags secs s = _
  unfold execStart
  rw [if_pos hd, State.unlessFault_other _ _ (by simp [hq])]
  unfold State.startSession
  rw [if_neg (by simp [hq]), if_neg (by simp [hp])]

end Sys2Proof.Machine
end

