-- ==== Sys2Proof/Laws/PerInstr.lean ====
section
/-! SUPPORT. A statement about every instruction as syntax, one lemma per constructor: the word the encoder gives a
well-formed instruction matches the instruction's row of the opcode table (30_encoding rules R85, R89). -/

namespace Sys2Proof.Laws.EncodesInRow

/-- The word of a well-formed instruction matches its own row. -/
def Statement (i : Instr) : Prop := WellFormed i = true → i.row.Matches (encode i)

theorem nop : Statement .nop := fun _ => by decide
theorem send : Statement .send := fun _ => by decide
theorem loopon : Statement .loopon := fun _ => by decide
theorem loopoff : Statement .loopoff := fun _ => by decide
theorem stop : Statement .stop := fun _ => by decide
theorem status : Statement .status := fun _ => by decide
theorem framePriming : Statement .framePriming := fun _ => by decide

theorem setch (idx : BitVec 8) (val : Pulse) : Statement (.setch idx val) := fun _ =>
  BitVec.eq_of_getLsbD_eq fun k hk => by
    simp only [Instr.row, encode, cmdWord, BitVec.getLsbD_and, BitVec.getLsbD_append]
    interval_cases k <;> simp

theorem getch (idx : BitVec 8) : Statement (.getch idx) := fun _ =>
  BitVec.eq_of_getLsbD_eq fun k hk => by
    simp only [Instr.row, encode, cmdWord, BitVec.getLsbD_and, BitVec.getLsbD_append]
    interval_cases k <;> simp

theorem selp (id : BitVec 8) : Statement (.selp id) := fun _ =>
  BitVec.eq_of_getLsbD_eq fun k hk => by
    simp only [Instr.row, encode, cmdWord, BitVec.getLsbD_and, BitVec.getLsbD_append]
    interval_cases k <;> simp

/-- Bit `k + 2` of defined START flags is 0. -/
theorem startFlags_high (flags : BitVec 8) {secs : BitVec 16} (h : WellFormed (.start flags secs) = true) (k : Nat) (hk : k < 6) :
    flags.getLsbD (2 + k) = false := by
  have h' : flags.extractLsb' 2 6 = 0#6 := by simpa [WellFormed, startFlagsDefined] using h
  have := congrArg (fun b => b.getLsbD k) h'
  simpa [BitVec.getLsbD_extractLsb', hk] using this

theorem start (flags : BitVec 8) (secs : BitVec 16) : Statement (.start flags secs) := fun h =>
  BitVec.eq_of_getLsbD_eq fun k hk => by
    have hf := startFlags_high flags h
    have h2 := hf 0 (by decide)
    have h3 := hf 1 (by decide)
    have h4 := hf 2 (by decide)
    have h5 := hf 3 (by decide)
    have h6 := hf 4 (by decide)
    have h7 := hf 5 (by decide)
    simp only [Instr.row, encode, cmdWord, BitVec.getLsbD_and, BitVec.getLsbD_append]
    interval_cases k <;> simp_all

theorem frameControl (pid : BitVec 7) : Statement (.frameControl pid) := fun _ =>
  BitVec.eq_of_getLsbD_eq fun k hk => by
    simp only [Instr.row, encode, headerWord, selByte, BitVec.getLsbD_and, BitVec.getLsbD_append]
    interval_cases k <;> simp

theorem frameBind (pid : BitVec 7) : Statement (.frameBind pid) := fun _ =>
  BitVec.eq_of_getLsbD_eq fun k hk => by
    simp only [Instr.row, encode, headerWord, selByte, BitVec.getLsbD_and, BitVec.getLsbD_append]
    interval_cases k <;> simp

theorem frameFailsafe (pid : BitVec 7) : Statement (.frameFailsafe pid) := fun _ =>
  BitVec.eq_of_getLsbD_eq fun k hk => by
    simp only [Instr.row, encode, headerWord, selByte, BitVec.getLsbD_and, BitVec.getLsbD_append]
    interval_cases k <;> simp

end Sys2Proof.Laws.EncodesInRow
end

