-- ==== Sys2Proof/Laws/Step.lean ====
section
/-! SUPPORT. What one step is, by the event at the head of the queue: cite these, do not unfold step. -/

namespace Sys2Proof.Machine

/-- With no event waiting the block waits. -/
theorem step_of_none {s : State} (h : s.inq = []) : step s = .next s := by
  simp [step, State.nextEvent, h]

/-- A step with an event waiting takes it off the queue and processes it. -/
theorem step_of_event {s : State} {e : Event} {rest : List Event} (h : s.inq = e :: rest) :
    step s = receive e { s with inq := rest } := by
  simp [step, State.nextEvent, h]

/-- RST. -/
theorem step_of_rst {s : State} {rest : List Event} (h : s.inq = .rst :: rest) :
    step s = .next (State.applyReset { s with inq := rest }) := step_of_event h

/-- TXERR. -/
theorem step_of_txerr {s : State} {rest : List Event} (h : s.inq = .txerr :: rest) :
    step s = .next (State.takeTransportError { s with inq := rest }) := step_of_event h

/-- TICK. -/
theorem step_of_tick {s : State} {rest : List Event} (h : s.inq = .tick :: rest) :
    step s = .next (State.tick { s with inq := rest }) := step_of_event h

/-- A word that decodes runs its command. -/
theorem step_of_command {s : State} {w : CmdWord} {rest : List Event} {i : Instr} (h : s.inq = .cmd w :: rest)
    (hd : decodeCommand w = .ok i) : step s = exec i { s with inq := rest } := by
  rw [step_of_event h]
  simp [receive, receiveCommand, hd]

/-- A word that decodes to nothing is refused. -/
theorem step_of_illegal {s : State} {w : CmdWord} {rest : List Event} {e : DecodeError} (h : s.inq = .cmd w :: rest)
    (hd : decodeCommand w = .error e) :
    step s = .next (State.respond { s with inq := rest } .illegalCmd 0) := by
  rw [step_of_event h]
  simp [receive, receiveCommand, hd]

/-- Every step is one of these. -/
theorem step_cases {s t : State} (h : step s = .next t) :
    (s.inq = [] ∧ t = s) ∨
    (∃ rest, s.inq = .rst :: rest ∧ t = State.applyReset { s with inq := rest }) ∨
    (∃ rest, s.inq = .txerr :: rest ∧ t = State.takeTransportError { s with inq := rest }) ∨
    (∃ rest, s.inq = .tick :: rest ∧ t = State.tick { s with inq := rest }) ∨
    (∃ w rest e, s.inq = .cmd w :: rest ∧ decodeCommand w = .error e ∧
      t = State.respond { s with inq := rest } .illegalCmd 0) ∨
    (∃ w rest i, s.inq = .cmd w :: rest ∧ decodeCommand w = .ok i ∧ exec i { s with inq := rest } = .next t) := by
  match hq : s.inq with
  | [] =>
    rw [step_of_none hq] at h
    exact .inl ⟨rfl, by injection h with h; exact h.symm⟩
  | .rst :: rest =>
    rw [step_of_rst hq] at h
    exact .inr (.inl ⟨rest, rfl, by injection h with h; exact h.symm⟩)
  | .txerr :: rest =>
    rw [step_of_txerr hq] at h
    exact .inr (.inr (.inl ⟨rest, rfl, by injection h with h; exact h.symm⟩))
  | .tick :: rest =>
    rw [step_of_tick hq] at h
    exact .inr (.inr (.inr (.inl ⟨rest, rfl, by injection h with h; exact h.symm⟩)))
  | .cmd w :: rest =>
    cases hd : decodeCommand w with
    | ok i =>
      rw [step_of_command hq hd] at h
      exact .inr (.inr (.inr (.inr (.inr ⟨w, rest, i, rfl, hd, h⟩))))
    | error e =>
      rw [step_of_illegal hq hd] at h
      exact .inr (.inr (.inr (.inr (.inl ⟨w, rest, e, rfl, hd, by injection h with h; exact h.symm⟩))))

/-- Any machine: a run of `n + 1` steps that answers is a step and a run of `n`. -/
theorem machineRun_succ (M : Host.Core) {n : Nat} {s t : M.State} (h : M.run (n + 1) s = .next t) :
    ∃ u, M.step s = .next u ∧ M.run n u = .next t := by
  rw [Host.Core.run] at h
  split at h
  · exact ⟨_, by assumption, h⟩
  · cases h
  · cases h

/-- Any machine: after a step that answers, a run goes on from there. -/
theorem machineRun_step (M : Host.Core) {n : Nat} {s u : M.State} (h : M.step s = .next u) :
    M.run (n + 1) s = M.run n u := by
  rw [Host.Core.run, h]

/-- A run of `n + 1` steps is a step and a run of `n`. -/
theorem run_succ {n : Nat} {s t : State} (h : Host.Core.run Sys2Proof.core (n + 1) s = .next t) :
    ∃ u : State, step s = .next u ∧ Host.Core.run Sys2Proof.core n u = .next t :=
  machineRun_succ Sys2Proof.core h

/-- After a step a run goes on from the state the step answers. -/
theorem run_step {n : Nat} {s u : State} (h : step s = .next u) :
    Host.Core.run Sys2Proof.core (n + 1) s = Host.Core.run Sys2Proof.core n u :=
  machineRun_step Sys2Proof.core h

/-- A run of no steps stays where it is. -/
theorem run_zero {s t : State} (h : Host.Core.run Sys2Proof.core 0 s = .next t) : t = s := by
  injection h with h
  exact h.symm

end Sys2Proof.Machine
end

