-- ==== Sys2Proof/Tests/Slice0.lean ====
section
/-! SUPPORT. The model against the spec's own worked values (95_test_vectors), each test one event on a small state;
and for every statement with hypotheses a witness: a concrete state and operands that meet them, clause by clause. -/

namespace Sys2Proof.Tests

open Sys2Proof Sys2Proof.Machine

/-! ## Helpers -/

/-- IDLE with protocol 15 selected. -/
def idle : State := { State.reset with proto := 15, protoV := true }

/-- A session of protocol 15 in the state `q`. -/
def session (q : SeqState) (cnt : BitVec 4) (slotT : BitVec 7) : State :=
  { idle with seq := q, cnt := cnt, slotT := slotT }

/-- FAULT, entered from a priming burst (P5). -/
def fault : State := { idle with seq := .fault, cnt := 1, terr := true }

/-- A state with the events to come. -/
def coming (es : List Event) (s : State) : State := { s with inq := es }

/-- What one event leaves of the state, through the view `f`. -/
def after (e : Event) (s : State) {α : Type} (f : State → α) : Option α :=
  match step (coming [e] s) with
  | .next t => some (f t)
  | _ => none

/-- The 22 payload bytes of sixteen values 1500 (`M22`, V20). -/
def m22 : List Byte :=
  [0x00, 0x04, 0x20, 0x00, 0x01, 0x08, 0x40, 0x00, 0x02, 0x10, 0x80,
   0x00, 0x04, 0x20, 0x00, 0x01, 0x08, 0x40, 0x00, 0x02, 0x10, 0x80]

/-- Twenty-two bytes 00 (`Z22`). -/
def z22 : List Byte := List.replicate 22 0x00

/-- The headers of the frames sent. -/
def heads (s : State) : List (List Byte) := s.tx.map fun f => [f[0], f[1], f[2], f[3]]

/-! ## Well-formed terms (R90, R93) -/

theorem test_wellFormed_refuses_undefined_start_flags :
    WellFormed (.start 4 0) = false ∧ WellFormed (.start 0x80 0) = false ∧ WellFormed (.start 3 65535) = true := by
  decide

/-! ## Decoding: the words of V40, written out from R89 -/

theorem test_decode_nop : decode 0x00000000 = .ok .nop := by decide
theorem test_decode_setch : decode 0x100203E8 = .ok (.setch 2 1000) ∧ decode 0x1003FF9C = .ok (.setch 3 0xFF9C) ∧
    decode 0x100F085C = .ok (.setch 15 2140) := by decide
theorem test_decode_getch : decode 0x20030000 = .ok (.getch 3) := by decide
theorem test_decode_selp : decode 0x30050000 = .ok (.selp 5) ∧ decode 0x30190000 = .ok (.selp 25) := by decide
theorem test_decode_start : decode 0x40000000 = .ok .pseudoRun ∧ decode 0x40010005 = .ok (.pseudoBind 5) ∧
    decode 0x40020000 = .ok .pseudoFailsafe ∧ decode 0x40030001 = .ok (.start 3 1) := by decide
theorem test_decode_send : decode 0x50000000 = .ok .send := by decide
theorem test_decode_loopon : decode 0x60000000 = .ok .loopon := by decide
theorem test_decode_loopoff : decode 0x70000000 = .ok .loopoff := by decide
theorem test_decode_stop : decode 0x80000000 = .ok .stop := by decide
theorem test_decode_status : decode 0x90000000 = .ok .status := by decide
/-- R85: byte 0, byte 1 with the bind flag, two reserved bytes. -/
theorem test_decode_frames : decode 0x550F0000 = .ok (.frameControl 15) ∧ decode 0x558F0000 = .ok (.frameBind 15) ∧
    decode 0x55010000 = .ok .framePriming ∧ decode 0x57190000 = .ok (.frameFailsafe 25) := by decide
/-- R85, R86: no frame has a bind flag under the failsafe header, or a reserved byte that is not 0. -/
theorem test_decode_frames_refused : decode 0x57990000 = .error .reservedField ∧
    decode 0x55190100 = .error .reservedField ∧ decode 0x56190000 = .error .reservedField := by decide
/-- V42. -/
theorem test_decode_illegal :
    [0xA0000000, 0xF0000000, 0x01000000, 0x00000001, 0x20030001, 0x30050001, 0x40040000, 0x50000001,
      0x60010000, 0x70000001, 0x80000001, 0x90000001].map (decodeTableWord 32) = List.replicate 12 none := by decide
/-- R94: an integer operand is reduced modulo 2^16 (V40). -/
theorem test_assembleSetch : assembleSetch 3 (-100) = 0x1003FF9C := by decide

/-! ## Codec (V1 to V29); R251 holds PACK to the literal vectors V20 to V27, each line of which is here -/

theorem test_encode_vectors :
    [-32768, -1, 0, 859, 860, 861, 862, 1000, 1500, 1499, 1501, 1520, 2000, 2139, 2140, 2141, 32767].map encodeInt =
      [0, 0, 0, 0, 0, 1, 3, 224, 1024, 1022, 1025, 1056, 1824, 2046, 2047, 2047, 2047] := by decide
/-- V20. -/
theorem test_pack_centre : (pack (Vector.replicate 16 1500)).toList = m22 := by decide
/-- V21, V22. -/
theorem test_pack_ends : (pack (Vector.replicate 16 860)).toList = z22 ∧
    (pack (Vector.replicate 16 2140)).toList = List.replicate 22 0xFF := by decide
/-- Sixteen values 860 but for one 2140 (V23). -/
def oneHigh (i : Fin 16) : List Byte := (pack ((Vector.replicate 16 860).set i 2140)).toList

/-- V23, channels 0, 7, 8, 13 and 15: where each field lies. -/
theorem test_pack_one_channel_high :
    oneHigh 0 = [0xFF, 0x07] ++ List.replicate 20 0 ∧
    oneHigh 7 = List.replicate 9 0 ++ [0xE0, 0xFF] ++ List.replicate 11 0 ∧
    oneHigh 8 = List.replicate 11 0 ++ [0xFF, 0x07] ++ List.replicate 9 0 ∧
    oneHigh 13 = List.replicate 17 0 ++ [0x80, 0xFF, 0x03] ++ List.replicate 2 0 ∧
    oneHigh 15 = List.replicate 20 0 ++ [0xE0, 0xFF] := by decide
/-- V23, channel 5: the field that a 16-bit accumulator would lose bits of (V28). -/
theorem test_pack_channel5 : oneHigh 5 =
    [0, 0, 0, 0, 0, 0, 0x80, 0xFF, 0x03, 0, 0, 0, 0, 0, 0, 0, 0, 0, 0, 0, 0, 0] := by decide
/-- V24: one field changes and no other bit. -/
theorem test_pack_isolation : (pack ((Vector.replicate 16 1500).set 2 1000)).toList =
    [0x00, 0x04, 0x20, 0x38, 0x00, 0x08, 0x40, 0x00, 0x02, 0x10, 0x80,
     0x00, 0x04, 0x20, 0x00, 0x01, 0x08, 0x40, 0x00, 0x02, 0x10, 0x80] := by decide
/-- V25: least significant bit first. -/
theorem test_pack_lsb_first : (pack ((Vector.replicate 16 860).set 0 861)).toList = 0x01 :: List.replicate 21 0 := by
  decide
/-- V26. -/
theorem test_pack_ramp : (pack (Vector.ofFn fun i : Fin 16 => BitVec.ofNat 16 (1000 + 50 * i.val))).toList =
    [0xE0, 0x80, 0x09, 0x60, 0xA0, 0x03, 0x22, 0x38, 0x01, 0x0B, 0x62,
     0x60, 0x83, 0x1D, 0x00, 0xA1, 0x08, 0x4A, 0x78, 0x02, 0x15, 0xB2] := by decide
/-- V27, the first line. -/
theorem test_pack_alternating :
    (pack (Vector.ofFn fun i : Fin 16 => if i.val % 2 = 0 then 860 else 2140)).toList =
      [0x00, 0xF8, 0x3F, 0x00, 0xFE, 0x0F, 0x80, 0xFF, 0x03, 0xE0, 0xFF,
       0x00, 0xF8, 0x3F, 0x00, 0xFE, 0x0F, 0x80, 0xFF, 0x03, 0xE0, 0xFF] := by decide

/-- V27, the second line: the bitwise complement. -/
theorem test_pack_alternating_complement :
    (pack (Vector.ofFn fun i : Fin 16 => if i.val % 2 = 0 then 2140 else 860)).toList =
      [0xFF, 0x07, 0xC0, 0xFF, 0x01, 0xF0, 0x7F, 0x00, 0xFC, 0x1F, 0x00,
       0xFF, 0x07, 0xC0, 0xFF, 0x01, 0xF0, 0x7F, 0x00, 0xFC, 0x1F, 0x00] := by decide

/-! ## Frames (V30 to V35) -/

theorem test_frames : (buildControl 3 (Vector.replicate 16 1500)).toList = [0x55, 0x03, 0, 0] ++ m22 ∧
    (buildBind 15 (Vector.replicate 16 1500)).toList = [0x55, 0x8F, 0, 0] ++ m22 ∧
    buildPriming.toList = [0x55, 0x01, 0, 0] ++ z22 ∧
    (buildFailsafe 25).toList = [0x57, 0x19, 0, 0] ++ z22 := by decide

/-! ## STATUS words (V41) -/

theorem test_status_words : State.reset.statusWord = 0x0080 ∧ (session .priming 10 1).statusWord = 0x1FD1 ∧
    { session .streaming 0 0 with proto := 5, loop := false }.statusWord = 0x0B04 ∧
    fault.statusWord = 0x1F8F := by decide

/-! ## One event (P1 to P6, V49) -/

theorem test_nop : after (.cmd 0x00000000) fault (·.rsp) = some [⟨.ok, 0⟩] := by decide
/-- P3: stored raw. -/
theorem test_setch : after (.cmd 0x1003FF9C) State.reset (fun t => (t.rsp, t.ch[3], t.ch[2])) =
    some ([⟨.ok, 0⟩], 0xFF9C, 1500) := by decide
/-- V49, P3: FAULT is checked before the operand. -/
theorem test_setch_refused : after (.cmd 0x10100000) fault (·.rsp) = some [⟨.transportError, 0⟩] ∧
    after (.cmd 0x101005DC) State.reset (·.rsp) = some [⟨.configError, 0⟩] := by decide
/-- P5: in FAULT too. -/
theorem test_getch : after (.cmd 0x20000000) fault (·.rsp) = some [⟨.ok, 0x05DC⟩] ∧
    after (.cmd 0x20C80000) State.reset (·.rsp) = some [⟨.configError, 0⟩] := by decide
/-- P3. -/
theorem test_selp : after (.cmd 0x30050000) State.reset (fun t => (t.rsp, t.proto, t.protoV)) =
    some ([⟨.ok, 0⟩], 5, true) ∧ after (.cmd 0x30030000) State.reset (·.rsp) = some [⟨.configError, 0⟩] := by decide
/-- V49: the state is checked before the operand. -/
theorem test_selp_refused : after (.cmd 0x30070000) (session .streaming 0 50) (·.rsp) =
    some [⟨.stateError, 0⟩] := by decide
/-- P2: `BIND_LIMIT` is 1000; the first priming frame is inside the event. -/
theorem test_start : after (.cmd 0x40030001) idle
      (fun t => (t.seq, t.cnt, t.slotT, t.bindLimit)) = some (.priming, 1, 50, 1000) ∧
    after (.cmd 0x40030001) idle (fun t => (heads t, t.rsp)) = some ([[0x55, 0x01, 0, 0]], [⟨.ok, 0⟩]) := by decide
/-- P3, P4. -/
theorem test_start_refused : after (.cmd 0x40000000) State.reset (·.rsp) = some [⟨.configError, 0⟩] ∧
    after (.cmd 0x40000000) (session .streaming 0 50) (·.rsp) = some [⟨.stateError, 0⟩] := by decide
/-- V45: SEND restarts the period. -/
theorem test_send : after (.cmd 0x50000000) (session .streaming 0 20) (fun t => (heads t, t.slotT, t.rsp)) =
    some ([[0x55, 0x0F, 0, 0]], 50, [⟨.ok, 0⟩]) := by decide
/-- P4: with LOOP off the timer stays 0. -/
theorem test_send_loop_off : after (.cmd 0x50000000) { session .streaming 0 0 with loop := false }
    (fun t => (t.tx.length, t.slotT)) = some (1, 0) := by decide
/-- P4: a frame at once. -/
theorem test_loopon : after (.cmd 0x60000000) { session .streaming 0 0 with loop := false }
    (fun t => (t.loop, heads t, t.slotT)) = some (true, [[0x55, 0x0F, 0, 0]], 50) := by decide
/-- V48: the burst goes on. -/
theorem test_loopoff : after (.cmd 0x70000000) (session .priming 3 30) (fun t => (t.loop, t.seq, t.slotT, t.tx)) =
    some (false, .priming, 30, []) := by decide
/-- V46, P5. -/
theorem test_stop : after (.cmd 0x80000000) (session .priming 3 30) (fun t => (t.seq, t.cnt, t.slotT, t.proto)) =
    some (.idle, 0, 0, 15) ∧ after (.cmd 0x80000000) fault (fun t => (t.seq, t.rsp)) =
    some (.fault, [⟨.transportError, 0⟩]) := by decide
/-- P5. -/
theorem test_status : after (.cmd 0x90000000) fault (·.rsp) = some [⟨.ok, 0x1F8F⟩] := by decide
/-- V49: decoding comes before the FAULT check. -/
theorem test_illegal_in_fault : after (.cmd 0xF0000000) fault (·.rsp) = some [⟨.illegalCmd, 0⟩] := by decide
/-- P5. -/
theorem test_txerr : after .txerr (session .failsafe 1 30) (fun t => (t.seq, t.terr, t.slotT, t.cnt)) =
    some (.fault, true, 0, 1) := by decide
/-- P5. -/
theorem test_rst : after .rst fault (fun t => (t.seq, t.terr, t.proto, t.statusWord)) =
    some (.idle, false, 0, 0x0080) := by decide
/-- P1: the slot that ends the priming burst sends the first control frame. -/
theorem test_tick_priming_ends : after .tick (session .priming 10 1) (fun t => (t.seq, t.cnt, t.slotT, heads t)) =
    some (.streaming, 0, 50, [[0x55, 0x0F, 0, 0]]) := by decide
/-- P6: a bind of zero length sends a failsafe-setup frame in the same slot. -/
theorem test_tick_bind_of_zero : after .tick { session .priming 10 1 with bindEn := true }
    (fun t => (t.seq, t.cnt, heads t)) = some (.failsafe, 1, [[0x57, 0x0F, 0, 0]]) := by decide
/-- P2 at `t` = 1500: the elapsed time counts the TICK of the slot itself. -/
theorem test_tick_bind_ends : after .tick { session .bind 0 1 with bindEn := true, bindElapsed := 999, bindLimit := 1000 }
    (fun t => (t.seq, t.cnt, t.bindElapsed)) = some (.failsafe, 1, 1000) := by decide

/-! ## The frame rows (R131 to R134, R138) -/

/-- What a frame row leaves of the state, through the view `f`. -/
def afterRow (i : Instr) (s : State) {α : Type} (f : State → α) : Option α :=
  match exec i s with
  | .next t => some (f t)
  | _ => none

theorem test_frameControl : afterRow (.frameControl 3) State.reset heads = some [[0x55, 0x03, 0, 0]] := by decide
theorem test_frameBind : afterRow (.frameBind 25) State.reset heads = some [[0x55, 0x99, 0, 0]] := by decide
theorem test_framePriming : afterRow .framePriming fault heads = some [[0x55, 0x01, 0, 0]] := by decide
theorem test_frameFailsafe : afterRow (.frameFailsafe 25) fault heads = some [[0x57, 0x19, 0, 0]] := by decide

/-- A word of each row, placed with withFetchWord after reset, is what the next step runs. -/
def placed (w : Nat) {α : Type} (f : State → α) : Option α :=
  match step (State.reset.withFetchWord 32 w) with
  | .next t => some (f t)
  | _ => none

theorem test_withFetchWord_commands : placed 0x100203E8 (fun t => (t.ch[2], t.inq)) = some (1000, []) ∧
    placed 0x90000000 (·.rsp) = some [⟨.ok, 0x0080⟩] ∧ placed 0xA0000000 (·.rsp) = some [⟨.illegalCmd, 0⟩] := by decide
theorem test_withFetchWord_frames : placed 0x55190000 heads = some [[0x55, 0x19, 0, 0]] ∧
    placed 0x55990000 heads = some [[0x55, 0x99, 0, 0]] ∧ placed 0x55010000 heads = some [[0x55, 1, 0, 0]] ∧
    placed 0x57190000 heads = some [[0x57, 0x19, 0, 0]] := by decide

/-! ## Witnesses: the hypotheses of each statement, met together -/

theorem witness_DecodeOfEncode :
    WellFormed (.start 3 65535) = true ∧ (Instr.start 3 65535) ≠ .frameControl 1 ∧
      WellFormed (.frameControl 127) = true ∧ Instr.frameControl 127 ≠ .frameControl 1 := by decide

theorem witness_EncodeOfDecode : decode 0x55990000 = .ok (.frameBind 25) ∧ decode 0x4003FFFF = .ok (.start 3 65535) := by
  decide

theorem witness_CommandWordMatchesExactlyOneRow :
    decodeCommand 0x9FFFFFFF = .error .reservedField ∧ (Instr.send.row).Matches 0x50000000 := by decide

/-- One word of each clause of R90's list. -/
theorem witness_IllegalWordIsAnsweredIllegalCmd :
    (0xA ≤ ((0xA0000000 : CmdWord).extractLsb' 28 4).toNat) ∧ (0x01000000 : CmdWord).extractLsb' 24 4 ≠ 0 ∧
      ((0x60010000 : CmdWord).extractLsb' 28 4).toNat = 6 ∧ (0x60010000 : CmdWord).extractLsb' 16 8 ≠ 0 ∧
      ((0x20030001 : CmdWord).extractLsb' 28 4).toNat = 2 ∧ (0x20030001 : CmdWord).extractLsb' 0 16 ≠ 0 ∧
      ((0x40040000 : CmdWord).extractLsb' 28 4).toNat = 4 ∧ (0x40040000 : CmdWord).extractLsb' 18 6 ≠ 0 ∧
      (coming [.cmd 0xA0000000] fault).inq = .cmd 0xA0000000 :: [] := by decide

theorem witness_BuiltFramesFitTheirPattern :
    (pack (Vector.replicate 16 2140)).toList.getLast? ≠ some 0 ∧ (pack (Vector.replicate 16 860)).toList = z22 := by
  decide

theorem witness_EncodeProperties :
    (860 : Int) ≤ 2139 ∧ (2139 : Int) ≤ 2140 ∧ (859 : Int) < 860 ∧ (2141 : Int) > 2140 ∧ (-1 : Int) ≤ 0 ∧
      (860 : Int) ≤ 860 ∧ (860 : Int) < 2140 ∧ (2140 : Int) ≤ 2140 ∧ encodeInt 861 = 1 ∧
      ((10 : Int) % 8 = 2 ∨ (10 : Int) % 8 = 5 ∨ (10 : Int) % 8 = 7) := by decide

theorem witness_PackIsLeastSignificantBitFirst : 15 < 16 ∧ 10 < 11 ∧ 0 < 16 ∧ 0 < 11 := by decide

theorem witness_PackIsTheClosedForm : 21 < 22 ∧ 8 * 21 / 11 = 15 ∧ 0 < 22 ∧ 8 * 0 / 11 = 0 := by decide

theorem witness_PackFieldsAreIsolated : 175 < 176 ∧ 175 / 11 ≠ (0 : Fin 16).val ∧ 11 < 176 ∧ 11 / 11 ≠ (0 : Fin 16).val ∧
    0 < 176 ∧ 0 / 11 ≠ (15 : Fin 16).val := by decide

/-- 860 is the greatest value that still packs to 0; -32768 the least there is. -/
theorem witness_PrimingIsControlOneWithAllChannelsLow :
    ∀ i, (h : i < 16) → ((Vector.replicate 16 (860 : Pulse)).set 0 0x8000)[i].toInt ≤ 860 := by decide

theorem witness_BindIsControlWithTheFlag :
    ∀ i, (h : i < 16) → registerCode (Vector.replicate 16 (860 : Pulse))[i] = 0 := by decide

/-- The invariant says nothing of what is to come, and of what was sent only what it says frame by frame. -/
theorem inv_with {s : State} (h : Inv s) (es : List Event) (fs : List Frame) (hf : ∀ f ∈ fs, BuiltFrame s.par f) :
    Inv { s with inq := es, tx := fs } := by
  cases h
  constructor <;> assumption

/-- The invariant holds in STREAMING with the loop on. -/
theorem inv_streaming : Inv (session .streaming 0 50) where
  legal := by decide
  timerRuns := by decide
  timerMax := by decide
  timerLoop := by decide
  cntMax := by decide
  cntIdle := by decide
  cntBurst := by decide
  sessionHasProto := by decide
  protoLegal := by decide
  protoNone := by decide
  bindEnabled := by decide
  bindTime := by decide
  limitMax := by decide
  terrIsFault := by decide
  accZero := rfl
  nbitsZero := rfl
  sent := by intro f hf; cases hf

/-- The invariant holds in STREAMING at the shortest period, 1 ms. -/
theorem inv_streaming_fast :
    Inv { session .streaming 0 1 with par := { initialParams with streamPeriodMs := 1 } } where
  legal := by decide
  timerRuns := by decide
  timerMax := by decide
  timerLoop := by decide
  cntMax := by decide
  cntIdle := by decide
  cntBurst := by decide
  sessionHasProto := by decide
  protoLegal := by decide
  protoNone := by decide
  bindEnabled := by decide
  bindTime := by decide
  limitMax := by decide
  terrIsFault := by decide
  accZero := rfl
  nbitsZero := rfl
  sent := by intro f hf; cases hf

/-- The invariant holds in FAULT. -/
theorem inv_fault : Inv fault where
  legal := by decide
  timerRuns := by decide
  timerMax := by decide
  timerLoop := by decide
  cntMax := by decide
  cntIdle := by decide
  cntBurst := by decide
  sessionHasProto := by decide
  protoLegal := by decide
  protoNone := by decide
  bindEnabled := by decide
  bindTime := by decide
  limitMax := by decide
  terrIsFault := by decide
  accZero := rfl
  nbitsZero := rfl
  sent := by intro f hf; cases hf

/-- The invariant holds in BIND, at the last TICK before its end. -/
theorem inv_bind : Inv { session .bind 0 1 with bindEn := true, bindElapsed := 999, bindLimit := 1000 } where
  legal := by decide
  timerRuns := by decide
  timerMax := by decide
  timerLoop := by decide
  cntMax := by decide
  cntIdle := by decide
  cntBurst := by decide
  sessionHasProto := by decide
  protoLegal := by decide
  protoNone := by decide
  bindEnabled := by decide
  bindTime := by decide
  limitMax := by decide
  terrIsFault := by decide
  accZero := rfl
  nbitsZero := rfl
  sent := by intro f hf; cases hf

theorem witness_FramesSentHaveTheFrameShape :
    Inv { session .streaming 0 50 with inq := [], tx := [buildPriming, buildFailsafe 15] } ∧
      buildFailsafe 15 ∈ [buildPriming, buildFailsafe 15] := by
  refine ⟨inv_with inv_streaming [] _ ?_, by simp⟩
  intro f hf
  rcases List.mem_cons.mp hf with rfl | hf
  · exact .inl rfl
  · rw [List.mem_singleton.mp hf]
    exact .inr ⟨15, by decide, .inl rfl⟩

/-- BIND at the last slot that still sends a bind frame. -/
def bindSlot : State := { session .bind 0 1 with bindEn := true, bindElapsed := 949, bindLimit := 1000 }

theorem witness_SlotsRunTheFrameRows :
    (session .streaming 0 1).slotT = 1 ∧ (session .streaming 0 1).loop = true ∧
      (session .priming 9 1).slotT = 1 ∧ (session .priming 9 1).cnt.toNat < 10 ∧
      (session .failsafe 9 1).slotT = 1 ∧ (session .failsafe 9 1).cnt.toNat < 10 ∧
      bindSlot.slotT = 1 ∧ bindSlot.seq = .bind ∧ bindSlot.bindElapsed.toNat + 1 < bindSlot.bindLimit.toNat := by decide

/-- The same for the frames of any step, the slots that hand over, START, SEND and LOOPON. -/
theorem witness_SlotsRunTheFrameRows_others :
    (after .tick (session .priming 10 1) (·.tx.length) = some 1 ∧ (session .priming 10 1).tx.length = 0) ∧
      (session .priming 10 1).slotT = 1 ∧ (session .priming 10 1).seq.inSession = true ∧
      (session .priming 10 1).loop = true ∧ (session .failsafe 10 1).loop = true ∧
      ({ bindSlot with bindElapsed := 999, loop := false } : State).tick.seq ≠ .streaming ∧
      WellFormed (.start 3 1) = true ∧ idle.seq = .idle ∧ idle.protoV = true ∧ idle.loop = true ∧
      (∃ t, exec (.start 3 1) idle = .next t) ∧ (session .streaming 0 0).seq = .streaming ∧
      ({ session .streaming 0 0 with loop := false } : State).loop = false :=
  ⟨by decide, rfl, rfl, rfl, rfl, by decide, by decide, rfl, rfl, rfl, ⟨_, rfl⟩, rfl, rfl⟩

theorem witness_StepRunsTheDecodedCommand :
    (coming [.cmd 0x100203E8, .tick] fault).inq = .cmd 0x100203E8 :: [.tick] ∧
      decodeCommand 0x100203E8 = .ok (.setch 2 1000) := by decide

/-- A word with the operation code `op` and nothing else, and one with something else. -/
def bareAndNot (op : Nat) (bare other : CmdWord) : Bool :=
  (bare.extractLsb' 28 4).toNat == op && bare.extractLsb' 0 28 == 0 &&
    (other.extractLsb' 28 4).toNat == op && other.extractLsb' 0 28 != 0

theorem witness_NopOnlyResponds : bareAndNot 0 0x00000000 0x00000001 = true := by decide

theorem witness_SetchWritesOneChannel :
    ((0x11000000 : CmdWord).extractLsb' 28 4).toNat = 1 ∧ (0x11000000 : CmdWord).extractLsb' 24 4 ≠ 0 ∧
      ((0x10FFFFFF : CmdWord).extractLsb' 28 4).toNat = 1 ∧ (0x10FFFFFF : CmdWord).extractLsb' 24 4 = 0 ∧
      State.reset.seq ≠ .fault ∧ (15 : BitVec 8).toNat < 16 ∧ 16 ≤ (16 : BitVec 8).toNat ∧ fault.seq = .fault := by
  decide

theorem witness_GetchReadsTheRawChannel :
    ((0x21000000 : CmdWord).extractLsb' 28 4).toNat = 2 ∧ (0x21000000 : CmdWord).extractLsb' 24 4 ≠ 0 ∧
      ((0x20000001 : CmdWord).extractLsb' 28 4).toNat = 2 ∧ (0x20000001 : CmdWord).extractLsb' 0 16 ≠ 0 ∧
      ((0x20FF0000 : CmdWord).extractLsb' 28 4).toNat = 2 ∧ (0x20FF0000 : CmdWord).extractLsb' 24 4 = 0 ∧
      (0x20FF0000 : CmdWord).extractLsb' 0 16 = 0 ∧
      (15 : BitVec 8).toNat < 16 ∧ 16 ≤ (16 : BitVec 8).toNat ∧ 16 ≤ (255 : BitVec 8).toNat := by decide

theorem witness_GetchAfterSetch : State.reset.seq ≠ .fault ∧ (15 : BitVec 8).toNat < 16 ∧ (0 : BitVec 8).toNat < 16 ∧
    ∃ t, exec (.setch 15 0x8000) State.reset = .next t := ⟨by decide, by decide, by decide, _, rfl⟩

theorem witness_SelpSelectsTheProtocol :
    ((0x31000000 : CmdWord).extractLsb' 28 4).toNat = 3 ∧ (0x31000000 : CmdWord).extractLsb' 24 4 ≠ 0 ∧
      ((0x30190000 : CmdWord).extractLsb' 28 4).toNat = 3 ∧ (0x30190000 : CmdWord).extractLsb' 24 4 = 0 ∧
      (0x30190000 : CmdWord).extractLsb' 0 16 = 0 ∧
      (25 : BitVec 7) ∈ State.reset.par.protoSet ∧ State.reset.seq = .idle ∧
      (25 : BitVec 8).toNat = (25 : BitVec 7).toNat ∧
      (∀ p ∈ State.reset.par.protoSet, (153 : BitVec 8).toNat ≠ p.toNat) ∧
      (session .streaming 0 50).seq.inSession = true ∧ fault.seq = .fault := by decide

/-- IDLE under `PRIME_ALWAYS` off. -/
def idleNoPriming : State := { idle with par := { initialParams with primeAlways := false } }

theorem witness_StartBeginsTheSession :
    ((0x4003FFFF : CmdWord).extractLsb' 28 4).toNat = 4 ∧ (0x4003FFFF : CmdWord).extractLsb' 24 4 = 0 ∧
      (0x4003FFFF : CmdWord).extractLsb' 18 6 = 0 ∧ (0x40040000 : CmdWord).extractLsb' 18 6 ≠ 0 ∧
      WellFormed (.start 0 0) = true ∧ WellFormed (.start 1 5) = true ∧ WellFormed (.start 2 0) = true ∧
      idle.seq = .idle ∧ idle.protoV = true ∧ idle.par.primeAlways = true ∧ (1 : BitVec 8).getLsbD 0 = true ∧
      idleNoPriming.seq = .idle ∧ idleNoPriming.protoV = true ∧ idleNoPriming.par.primeAlways = false ∧
      (2 : BitVec 8).getLsbD 0 = false ∧ (2 : BitVec 8).getLsbD 1 = true ∧
      (0 : BitVec 8).getLsbD 0 = false ∧ (0 : BitVec 8).getLsbD 1 = false ∧ idleNoPriming.loop = true ∧
      { idleNoPriming with loop := false }.loop = false ∧ State.reset.seq = .idle ∧ State.reset.protoV = false ∧
      (session .bind 0 50).seq.inSession = true ∧ fault.seq = .fault := by decide

theorem witness_SendEmitsOneControlFrame : bareAndNot 5 0x50000000 0x51000000 = true ∧
    (session .streaming 0 50).seq = .streaming ∧ idle.seq = .idle ∧
    (session .failsafe 1 50).seq.inBurst = true ∧ fault.seq = .fault := by decide

/-- STREAMING with the loop off. -/
def loopOff : State := { session .streaming 0 0 with loop := false }

theorem witness_LooponTurnsTheLoopOn : bareAndNot 6 0x60000000 0x60010000 = true ∧
    idle.seq ≠ .fault ∧ idle.loop = true ∧ loopOff.seq = .streaming ∧
    loopOff.loop = false ∧ { idle with loop := false }.seq ≠ .streaming ∧ { idle with loop := false }.seq ≠ .fault ∧
    { idle with loop := false }.loop = false ∧ fault.seq = .fault := by decide

theorem witness_LoopoffTurnsTheLoopOff : bareAndNot 7 0x70000000 0x70000001 = true ∧
    (session .streaming 0 50).seq = .streaming ∧ idle.seq ≠ .streaming ∧
    idle.seq ≠ .fault ∧ fault.seq = .fault := by decide

theorem witness_StopEndsTheSession : bareAndNot 8 0x80000000 0x80000001 = true ∧
    (session .bind 0 50).seq ≠ .fault ∧ fault.seq = .fault := by decide

theorem witness_StatusOnlyResponds : bareAndNot 9 0x90000000 0x90000001 = true := by decide

theorem witness_FirstFailingCheckIsReported : decodeCommand 0xA0000000 = .error .reservedOpcode ∧
    Instr.send.isCommand = true ∧ WellFormed .send = true ∧
    Instr.send.firstFailure fault = some .transportError ∧ Instr.send.firstFailure idle = some .stateError ∧
    (Instr.setch 16 0).firstFailure idle = some .configError ∧
    Instr.send.firstFailure (session .streaming 0 50) = none := by decide

theorem witness_CommandsAreIdempotentButSendAndStart :
    (∃ t, exec .nop idle = .next t) ∧ (∃ t u, exec (.selp 25) idle = .next t ∧ exec (.selp 25) t = .next u) ∧
    ((session .streaming 0 50).seq = .streaming ∧
      ∃ t u, exec .send (session .streaming 0 50) = .next t ∧ exec .send t = .next u) ∧
    (WellFormed (.start 3 1) = true ∧ idle.seq = .idle ∧ idle.protoV = true ∧ ∃ t, exec (.start 3 1) idle = .next t) :=
  ⟨⟨_, rfl⟩, ⟨_, _, rfl, rfl⟩, ⟨rfl, _, _, rfl, rfl⟩, by decide, rfl, rfl, _, rfl⟩

theorem witness_SendAfterSetchCarriesTheNewValue : (2 : BitVec 8).toNat < 16 ∧
    (session .streaming 0 50).seq = .streaming ∧
    ∃ t u, exec (.setch 2 1000) (session .streaming 0 50) = .next t ∧ exec .send t = .next u :=
  ⟨by decide, rfl, _, _, rfl, rfl⟩

/-- A state with a TICK to come. -/
def ticking (s : State) : State := coming [.tick] s

theorem witness_TickCountsBetweenSlots : (ticking idle).inq = .tick :: [] ∧ (ticking idle).slotT ≠ 1 ∧
    (ticking (session .bind 0 50)).inq = .tick :: [] ∧ (ticking (session .bind 0 50)).slotT ≠ 1 := by decide

/-- The slot that ends a priming burst. -/
def primingEnd (bindEn fsEn loop : Bool) (limit : BitVec 26) : State :=
  ticking { session .priming 10 1 with bindEn := bindEn, fsEn := fsEn, loop := loop, bindLimit := limit }

theorem witness_PrimingSlot :
    (ticking (session .priming 9 1)).inq = .tick :: [] ∧ (session .priming 9 1).slotT = 1 ∧
      (session .priming 9 1).cnt.toNat < 10 ∧
      (primingEnd true false true 1).inq = .tick :: [] ∧ (primingEnd true false true 1).slotT = 1 ∧
      (primingEnd true false true 1).seq = .priming ∧ 10 ≤ (primingEnd true false true 1).cnt.toNat ∧
      (primingEnd true false true 1).bindEn = true ∧ 0 < (primingEnd true false true 1).bindLimit.toNat ∧
      (primingEnd true false true 0).bindEn = true ∧ (primingEnd true false true 0).bindLimit = 0 ∧
      (primingEnd false true true 0).bindEn = false ∧ (primingEnd false true true 0).fsEn = true ∧
      (primingEnd false false true 0).bindEn = false ∧ (primingEnd false false true 0).fsEn = false ∧
      (primingEnd false false true 0).loop = true ∧ (primingEnd false false false 0).loop = false := by decide

theorem witness_BindSlot : (ticking bindSlot).inq = .tick :: [] ∧ bindSlot.slotT = 1 ∧ bindSlot.seq = .bind ∧
    bindSlot.bindElapsed.toNat < 2 ^ 26 - 1 ∧ bindSlot.bindElapsed.toNat + 1 < bindSlot.bindLimit.toNat ∧
    { bindSlot with bindElapsed := 999 }.bindLimit.toNat ≤ { bindSlot with bindElapsed := 999 }.bindElapsed.toNat + 1 ∧
    { bindSlot with bindElapsed := 999 }.bindElapsed.toNat < 2 ^ 26 - 1 := by decide

theorem witness_FailsafeSlot : (ticking (session .failsafe 9 1)).inq = .tick :: [] ∧
    (session .failsafe 9 1).slotT = 1 ∧ (session .failsafe 9 1).seq = .failsafe ∧
    (session .failsafe 9 1).cnt.toNat < 10 ∧ 10 ≤ (session .failsafe 10 1).cnt.toNat ∧
    (session .failsafe 10 1).loop = true ∧ { session .failsafe 10 1 with loop := false }.loop = false := by decide

theorem witness_StreamingSlot : (ticking (session .streaming 0 1)).inq = .tick :: [] ∧
    (session .streaming 0 1).slotT = 1 ∧ (session .streaming 0 1).seq = .streaming ∧
    (session .streaming 0 1).loop = true ∧ { session .streaming 0 1 with loop := false }.loop = false := by decide

theorem witness_SequencerFollowsTheTransitionGraph :
    after .tick (session .priming 10 1) (fun t => decide (t.seq = .streaming)) = some true ∧
      (ticking (session .priming 10 1)).seq ≠ .streaming ∧ (ticking (session .priming 10 1)).inq = .tick :: [] ∧
      ArrowTo (ticking (session .priming 10 1)) .tick .streaming ∧ ArrowTo idle .rst .idle ∧
      ArrowTo idle .txerr .fault ∧ ArrowTo (session .bind 0 50) (.cmd 0x80000000) .idle ∧
      ArrowTo idle (.cmd 0x40000000) .priming :=
  ⟨by decide, by decide, rfl, ⟨rfl, .inl ⟨rfl, by decide, by decide⟩⟩, rfl, rfl, .inl ⟨rfl, rfl, rfl⟩,
    .inr ⟨0, 0, rfl, rfl, rfl, .inl ⟨rfl, .inl rfl⟩⟩⟩

/-- The state right after the first priming frame of a session. -/
def primed : State := session .priming 1 50

theorem witness_PrimingBurstTakes500Ticks : primed.seq = .priming ∧ primed.cnt = 1 ∧ primed.slotT = 50 ∧
    9 ≤ 9 ∧ 49 < 50 ∧ { primed with bindEn := true, bindLimit := 1000 }.bindEn = true ∧
    0 < { primed with bindEn := true, bindLimit := 1000 }.bindLimit.toNat ∧ primed.bindEn = false ∧
    { primed with fsEn := true }.fsEn = true ∧ primed.fsEn = false ∧ primed.loop = true ∧ primed.bindLimit = 0 ∧
    { primed with loop := false }.loop = false := by decide

/-- The state right after the first bind frame of a one-second bind. -/
def binding : State := { session .bind 0 50 with bindEn := true, bindLimit := 1000 }

theorem witness_BindLastsExactlyItsDuration : 1 ≤ 1 ∧ 1 ≤ 65535 ∧ binding.seq = .bind ∧ binding.bindElapsed = 0 ∧
    binding.slotT = 50 ∧ binding.bindLimit.toNat = 1000 * 1 ∧ 49 < 50 ∧ 50 * 19 + 49 < 1000 * 1 := by decide

/-- Every kind of session, with `PRIME_ALWAYS` and LOOP on or off, and TICKs at the ends of the ranges. -/
theorem witness_SessionScheduleOfFrames : WellFormed (.start 3 65535) = true ∧ WellFormed (.start 2 0) = true ∧
    WellFormed (.start 0 0) = true ∧ idle.seq = .idle ∧ idle.protoV = true ∧ idle.loop = true ∧
    idle.par.primeAlways = true ∧ idleNoPriming.seq = .idle ∧ idleNoPriming.protoV = true ∧
    idleNoPriming.par.primeAlways = false ∧ { idle with loop := false }.loop = false ∧
    (3 : BitVec 8).getLsbD 0 = true ∧ (2 : BitVec 8).getLsbD 0 = false ∧ (2 : BitVec 8).getLsbD 1 = true ∧
    (0 : BitVec 8).getLsbD 1 = false ∧ 499 < 500 + 0 + 0 ∧ 65535999 < 500 + 1000 * (65535 : BitVec 16).toNat + 500 ∧
    (∃ u, exec (.start 3 65535) idle = .next u) ∧ (∃ u, exec (.start 2 0) idleNoPriming = .next u) ∧
    ∃ u, exec (.start 0 0) { idle with loop := false } = .next u :=
  ⟨by decide, by decide, by decide, rfl, rfl, rfl, rfl, rfl, rfl, rfl, rfl, by decide, by decide, by decide,
    by decide, by decide, by decide, ⟨_, rfl⟩, ⟨_, rfl⟩, _, rfl⟩

theorem witness_StreamingSendsOneFramePerPeriod : (session .streaming 0 50).seq = .streaming ∧
    (session .streaming 0 50).loop = true ∧
    (session .streaming 0 50).slotT = (session .streaming 0 50).par.streamPeriodMs ∧
    49 < (session .streaming 0 50).par.streamPeriodMs.toNat := by decide

/-- A SETCH, then a TICK, to come in STREAMING, and a run of the two. -/
theorem witness_LoopKeepsTheDeadline :
    ∃ s t : State, Inv s ∧ s.seq = .streaming ∧ s.loop = true ∧
      (∀ e ∈ s.inq.take 2, e.keepsLoop = true) ∧ Host.Core.run Sys2Proof.core 2 s = .next t :=
  ⟨_, _, inv_with inv_streaming [.cmd 0x100203E8, .tick] [] (by intro f hf; cases hf), rfl, rfl, by decide, rfl⟩

/-- The last clause of the same: a period of 1 ms, so that one TICK is a whole period. -/
theorem witness_LoopKeepsTheDeadline_period :
    ∃ s t : State, Inv s ∧ s.seq = .streaming ∧ s.loop = true ∧ (∀ e ∈ s.inq.take 1, e.keepsLoop = true) ∧
      Host.Core.run Sys2Proof.core 1 s = .next t ∧ s.par.streamPeriodMs.toNat ≤ (s.inq.take 1).count Event.tick :=
  ⟨_, _, inv_with inv_streaming_fast [.tick] [] (by intro f hf; cases hf), rfl, rfl, by decide, rfl, by decide⟩

theorem witness_NoCommandEmitsDuringABurst :
    (coming [.cmd 0x60000000] primed).seq.inBurst = true ∧
      (coming [.cmd 0x60000000] primed).inq = .cmd 0x60000000 :: [] ∧
      ∃ t, step (coming [.cmd 0x60000000] primed) = .next t := ⟨rfl, rfl, _, rfl⟩

theorem witness_NothingIsSentInIdleOrFault : idle.seq.inSession = false ∧
    after (.cmd 0x40000000) idle (·.tx.length) = some 1 ∧ idle.tx.length = 0 := by decide

theorem witness_TransportErrorEntersFault : (coming [.txerr, .tick] idle).inq = .txerr :: [.tick] ∧
    (∀ e ∈ [Event.tick].take 1, e ≠ .rst) ∧
    ∃ t : State, Host.Core.run Sys2Proof.core 2 (coming [.txerr, .tick] idle) = .next t :=
  ⟨rfl, by decide, _, rfl⟩

theorem witness_FaultIsLeftOnlyByReset :
    Inv (coming [.tick, .txerr] fault) ∧ (coming [.tick, .txerr] fault).seq = .fault ∧ fault.terr = true ∧
      (∀ e ∈ (coming [.tick, .txerr] fault).inq.take 2, e ≠ .rst) ∧
      (∃ t : State, Host.Core.run Sys2Proof.core 2 (coming [.tick, .txerr] fault) = .next t) ∧
      (coming [.rst] fault).inq = .rst :: [] :=
  ⟨inv_with inv_fault [.tick, .txerr] [] (by intro f hf; cases hf), rfl, rfl, by decide, ⟨_, rfl⟩, rfl⟩

theorem witness_EventsOfOneCycleAreOrdered :
    (⟨true, true, true, none⟩ : Cycle).rst = true ∧ idle.inq = [] ∧
      (⟨false, true, true, none⟩ : Cycle).txerr = true ∧
      (⟨false, false, true, some (encode (.setch 15 0))⟩ : Cycle).cmd = some (encode (.setch 15 0)) ∧
      (15 : BitVec 8).toNat < 16 ∧ (session .streaming 0 1).inq = [] ∧ (session .streaming 0 1).seq = .streaming ∧
      (session .streaming 0 1).loop = true ∧ (session .streaming 0 1).slotT = 1 := by decide

theorem witness_ResetEventRestoresEveryRegister : (coming [.rst] (session .bind 0 50)).inq = .rst :: [] := by decide

theorem witness_StepAlwaysAnswersANextState : State.reset.inq = [] ∧ Inv (coming [.txerr] fault) ∧
    (coming [.txerr] fault).seq = .fault ∧ (coming [.txerr] fault).inq = .txerr :: [] :=
  ⟨rfl, inv_with inv_fault [.txerr] [] (by intro f hf; cases hf), rfl, rfl⟩

theorem witness_OutputsOfOneEvent : ((coming [.cmd 0x50000000] idle).inq = .cmd 0x50000000 :: [] ∧
      ∃ t, step (coming [.cmd 0x50000000] idle) = .next t) ∧
    (ticking primed).inq = .tick :: [] ∧ (∃ t, step (ticking primed) = .next t) ∧ ∀ w, Event.tick ≠ .cmd w :=
  ⟨⟨rfl, _, rfl⟩, rfl, ⟨_, rfl⟩, by intro w h; cases h⟩

theorem witness_OnlySetchAndResetWriteChannels :
    after (.cmd 0x100203E8) idle (fun t => decide (t.ch[2] = idle.ch[2])) = some false := by decide

theorem witness_ProtocolIsImmutableInASession :
    after (.cmd 0x30190000) idle (fun t => decide (t.proto = idle.proto)) = some false := by decide

theorem witness_ResetHoldsTheInvariant : initialParams.Legal ∧
    ({ initialParams with protoSet := [3, 15, 25], streamPeriodMs := 70 } : Params).Legal ∧
    ({ initialParams with streamPeriodMs := 1 } : Params).Legal := by decide

theorem witness_StepKeepsTheInvariant : (∃ s t : State, Inv s ∧ s.seq = .bind ∧ step s = .next t) ∧
    ∃ s t : State, Inv s ∧ s.seq = .fault ∧ step s = .next t :=
  ⟨⟨_, _, inv_with inv_bind [.tick] [] (by intro f hf; cases hf), rfl, rfl⟩, ⟨_, _, inv_with inv_fault [.cmd 0x50000000] [] (by intro f hf; cases hf), rfl, rfl⟩⟩

/-- P1's first two commands, from reset. -/
theorem witness_EveryReachableStateMeetsTheInvariants : initialParams.Legal ∧
    ∃ t : State, Host.Core.run Sys2Proof.core 2
      (State.boot initialParams [.cmd 0x300F0000, .cmd 0x40000000]) = .next t := ⟨by decide, _, rfl⟩

end Sys2Proof.Tests
end

/-! The state after reset (10_state rule R36). -/

namespace Sys2Proof.Proofs

open Sys2Proof Sys2Proof.Machine

@[simp] theorem resetWith_getElem_ch (p : Params) (i : Nat) (h : i < 16) : (State.resetWith p).ch[i] = p.chReset :=
  Vector.getElem_replicate h

/-- Only `LOOP` of the five registers of the STATUS word (R92) is not 0 after reset. -/
@[simp] theorem resetWith_statusWord (p : Params) : (State.resetWith p).statusWord = 0x0080#16 :=
  calc (State.resetWith p).statusWord
      = ((0 : BitVec 7).setWidth 16 <<< 9) ||| (flagBit false <<< 8) ||| (flagBit true <<< 7) |||
          ((0 : BitVec 4).setWidth 16 <<< 3) ||| SeqState.idle.code.setWidth 16 := rfl
    _ = 0x0080#16 := by decide

/-- Settles O52: the channel registers and the STATUS word by their lemmas; every other register is a field of the
reset record as R36 writes it. -/
theorem resetValues : Obligations.ResetValues := fun p =>
  ⟨resetWith_getElem_ch p, rfl, rfl, rfl, rfl, rfl, rfl, rfl, rfl, rfl, rfl, rfl, rfl, rfl, rfl,
    resetWith_statusWord p⟩

end Sys2Proof.Proofs

/-! Payloads and codes as little-endian numbers, and the bit accumulator of PACK (40_codec, R60 and R116). -/

namespace Sys2Proof.Proofs

open Sys2Proof Sys2Proof.Machine

/-! Little-endian numbers: a payload has base 256, a ChannelSet's codes base 2048. -/

theorem ofDigits_div_pow_mod {b : Nat} {L : List Nat} (hL : ∀ x ∈ L, x < b) (i : Nat) (h : i < L.length) :
    Nat.ofDigits b L / b ^ i % b = L[i] := by
  have hb : L[i] < b := hL _ (List.getElem_mem h)
  rw [Nat.ofDigits_div_pow_eq_ofDigits_drop i (by omega) L hL, List.drop_eq_getElem_cons h, Nat.ofDigits_cons,
    Nat.add_mul_mod_self_left, Nat.mod_eq_of_lt hb]

theorem ofDigits_set {b : Nat} (x : Nat) : ∀ (L : List Nat) (i : Nat) (h : i < L.length),
    Nat.ofDigits b (L.set i x) + b ^ i * L[i] = Nat.ofDigits b L + b ^ i * x
  | a :: L, 0, _ => by simp [Nat.ofDigits_cons]; omega
  | a :: L, i + 1, h => by
    have ih := ofDigits_set (b := b) x L i (by simpa using h)
    simp only [List.set_cons_succ, List.getElem_cons_succ, Nat.ofDigits_cons, pow_succ']
    linear_combination b * ih

theorem testBit_of_div_mod {n i j w : Nat} (hj : j < w) :
    n.testBit (w * i + j) = (n / 2 ^ (w * i) % 2 ^ w).testBit j := by
  simp [Nat.testBit_mod_two_pow, Nat.testBit_div_two_pow, hj, Nat.add_comm]

theorem payloadNumber_eq_ofDigits (b : Payload) :
    payloadNumber b = Nat.ofDigits (2 ^ 8) (b.toList.map BitVec.toNat) := by
  simp [payloadNumber, Nat.ofDigits_eq_foldr, List.foldr_map]

theorem packedNumber_eq_ofDigits (v : ChannelSet) :
    packedNumber v = Nat.ofDigits (2 ^ 11) (v.toList.map fun p => (registerCode p).toNat) := by
  simp [packedNumber, Nat.ofDigits_eq_foldr, List.foldr_map]

/-- Byte `k` of a payload read back from its number. -/
theorem payloadNumber_div_mod (b : Payload) (k : Nat) (h : k < 22) :
    payloadNumber b / 2 ^ (8 * k) % 2 ^ 8 = b[k].toNat := by
  rw [payloadNumber_eq_ofDigits, pow_mul, ofDigits_div_pow_mod _ k (by simpa using h)]
  · simp
  · intro x hx
    obtain ⟨y, -, rfl⟩ := List.mem_map.mp hx
    exact y.isLt

/-- The code of channel `i` read back from the packed number. -/
theorem packedNumber_div_mod (v : ChannelSet) (i : Nat) (h : i < 16) :
    packedNumber v / 2 ^ (11 * i) % 2 ^ 11 = (registerCode v[i]).toNat := by
  rw [packedNumber_eq_ofDigits, pow_mul, ofDigits_div_pow_mod _ i (by simpa using h)]
  · simp
  · intro x hx
    obtain ⟨p, -, rfl⟩ := List.mem_map.mp hx
    exact (registerCode p).isLt

theorem payloadNumber_set (b : Payload) (k : Nat) (x : Byte) (h : k < 22) :
    payloadNumber (b.set k x) + 2 ^ (8 * k) * b[k].toNat = payloadNumber b + 2 ^ (8 * k) * x.toNat := by
  have e := ofDigits_set (b := 2 ^ 8) x.toNat (b.toList.map BitVec.toNat) k (by simpa using h)
  simpa [payloadNumber_eq_ofDigits, List.map_set, Vector.toList_set, pow_mul] using e

/-! The bit accumulator: what an insertion and an emission do to the working registers. -/

theorem insert_nbits {r : PackRegs} (hn : r.nbits.toNat < 8) (c : ChannelCode) :
    (r.insert c).nbits.toNat = r.nbits.toNat + 11 := by
  simp [PackRegs.insert]
  omega

/-- The buffered bits lie below the place of the code, so the OR is a sum. -/
theorem insert_acc {r : PackRegs} (hacc : r.acc.toNat < 2 ^ r.nbits.toNat) (hn : r.nbits.toNat < 8)
    (c : ChannelCode) : (r.insert c).acc.toNat = r.acc.toNat + 2 ^ r.nbits.toNat * c.toNat := by
  have hfit : 2 ^ r.nbits.toNat * 2 ^ 11 ≤ 2 ^ 19 := by
    rw [← pow_add]
    exact Nat.pow_le_pow_right (by decide) (by omega)
  have hsum : r.acc.toNat + 2 ^ r.nbits.toNat * c.toNat < 2 ^ r.nbits.toNat * 2 ^ 11 :=
    Nat.add_mul_lt_mul_of_lt_of_lt hacc c.isLt
  have hc : 2 ^ r.nbits.toNat * c.toNat % 524288 = 2 ^ r.nbits.toNat * c.toNat := Nat.mod_eq_of_lt (by omega)
  rw [Nat.add_comm, Nat.two_pow_add_eq_or_of_lt hacc, Nat.or_comm]
  simp [PackRegs.insert, Nat.shiftLeft_eq, Nat.mul_comm, hc]

theorem emitByte_nbits {r : PackRegs} (hn : 8 ≤ r.nbits.toNat) : r.emitByte.nbits.toNat = r.nbits.toNat - 8 := by
  simp [PackRegs.emitByte]
  omega

theorem emitByte_outpos {r : PackRegs} (hk : r.outpos.toNat < 22) : r.emitByte.outpos.toNat = r.outpos.toNat + 1 := by
  simp [PackRegs.emitByte]
  omega

theorem emitByte_acc (r : PackRegs) : r.emitByte.acc.toNat = r.acc.toNat / 2 ^ 8 := by
  simp [PackRegs.emitByte, Nat.shiftRight_eq_div_pow]

theorem emitByte_payload {r : PackRegs} (hk : r.outpos.toNat < 22) :
    r.emitByte.payload = r.payload.set r.outpos.toNat (r.acc.setWidth 8) := by
  simp [PackRegs.emitByte, Vector.setIfInBounds, Vector.set, Array.setIfInBounds, hk]

/-! The invariant of a PACK. -/

/-- What a PACK holds after `pos` bits of the number `P`: the bytes below `OUTPOS` are written, the bits above them are
buffered in `ACC`, and nothing stands above either. -/
structure PackHolds (r : PackRegs) (pos P : Nat) : Prop where
  acc_lt : r.acc.toNat < 2 ^ r.nbits.toNat
  written_lt : payloadNumber r.payload < 2 ^ (8 * r.outpos.toNat)
  pos_eq : 8 * r.outpos.toNat + r.nbits.toNat = pos
  number_eq : payloadNumber r.payload + 2 ^ (8 * r.outpos.toNat) * r.acc.toNat = P

theorem packHolds_start : PackHolds PackRegs.start 0 0 := by
  constructor <;> decide

/-- Inserting a code appends its 11 bits. -/
theorem PackHolds.insert {r : PackRegs} {pos P : Nat} (hr : PackHolds r pos P) (hn : r.nbits.toNat < 8)
    (c : ChannelCode) : PackHolds (r.insert c) (pos + 11) (P + 2 ^ pos * c.toNat) := by
  obtain ⟨hacc, hwritten, rfl, rfl⟩ := hr
  refine ⟨?_, hwritten, ?_, ?_⟩
  · rw [insert_nbits hn, insert_acc hacc hn, pow_add]
    exact Nat.add_mul_lt_mul_of_lt_of_lt hacc c.isLt
  · rw [insert_nbits hn, Nat.add_assoc]
    rfl
  · rw [insert_acc hacc hn, pow_add, Nat.mul_add, Nat.mul_assoc, Nat.add_assoc]
    rfl

/-- Emitting a byte moves the low 8 buffered bits to the next byte of the payload, which was 0. -/
theorem PackHolds.emitByte {r : PackRegs} {pos P : Nat} (hr : PackHolds r pos P) (hn : 8 ≤ r.nbits.toNat)
    (hpos : pos ≤ 176) : PackHolds r.emitByte pos P := by
  obtain ⟨hacc, hwritten, rfl, rfl⟩ := hr
  have hk : r.outpos.toNat < 22 := by omega
  have hzero : r.payload[r.outpos.toNat].toNat = 0 := by
    rw [← payloadNumber_div_mod _ _ hk, Nat.div_eq_of_lt hwritten, Nat.zero_mod]
  have hpayload : payloadNumber r.emitByte.payload =
      payloadNumber r.payload + 2 ^ (8 * r.outpos.toNat) * (r.acc.toNat % 2 ^ 8) := by
    simpa [emitByte_payload hk, hzero] using payloadNumber_set r.payload r.outpos.toNat (r.acc.setWidth 8) hk
  have hpow : 2 ^ (8 * (r.outpos.toNat + 1)) = 2 ^ (8 * r.outpos.toNat) * 2 ^ 8 := pow_add 2 _ 8
  refine ⟨?_, ?_, ?_, ?_⟩
  · rw [emitByte_nbits hn, emitByte_acc, Nat.div_lt_iff_lt_mul (by decide), ← pow_add, Nat.sub_add_cancel hn]
    exact hacc
  · rw [hpayload, emitByte_outpos hk, hpow]
    exact Nat.add_mul_lt_mul_of_lt_of_lt hwritten (Nat.mod_lt _ (by decide))
  · rw [emitByte_outpos hk, emitByte_nbits hn]
    omega
  · rw [hpayload, emitByte_outpos hk, emitByte_acc, hpow, Nat.mul_assoc, Nat.add_assoc, ← Nat.mul_add,
      Nat.mod_add_div]

theorem PackHolds.drain {pos P : Nat} (hpos : pos ≤ 176) (fuel : Nat) {r : PackRegs} (hr : PackHolds r pos P) :
    PackHolds (r.drain fuel) pos P := by
  induction fuel generalizing r with
  | zero => exact hr
  | succ fuel ih =>
    unfold PackRegs.drain
    split
    next hn => exact ih (hr.emitByte hn hpos)
    next => exact hr

/-- Each round of the drain loop takes 8 bits, so `fuel` rounds are enough for `8 * fuel + 7`. -/
theorem drain_nbits_lt (fuel : Nat) {r : PackRegs} (hn : r.nbits.toNat < 8 * (fuel + 1)) :
    (r.drain fuel).nbits.toNat < 8 := by
  induction fuel generalizing r with
  | zero => exact hn
  | succ fuel ih =>
    unfold PackRegs.drain
    split
    next h => exact ih (by rw [emitByte_nbits h]; omega)
    next => omega

/-- `NBITS` has 5 bits, and the three rounds of a channel's drain loop take 31. -/
theorem channel_nbits_lt (r : PackRegs) (p : Pulse) : (r.channel p).nbits.toNat < 8 :=
  drain_nbits_lt 3 (r.insert (registerCode p)).nbits.isLt

/-- One channel appends its code. -/
theorem PackHolds.channel {r : PackRegs} {pos P : Nat} (hr : PackHolds r pos P) (hn : r.nbits.toNat < 8)
    (hpos : pos + 11 ≤ 176) (p : Pulse) :
    PackHolds (r.channel p) (pos + 11) (P + 2 ^ pos * (registerCode p).toNat) :=
  (hr.insert hn (registerCode p)).drain hpos 3

theorem foldl_channel_nbits_lt (ps : List Pulse) {r : PackRegs} (hn : r.nbits.toNat < 8) :
    (ps.foldl PackRegs.channel r).nbits.toNat < 8 := by
  induction ps generalizing r with
  | nil => exact hn
  | cons p ps ih => exact ih (channel_nbits_lt r p)

/-- The channels of `ps` in order append the number their codes make in base 2048. -/
theorem PackHolds.foldl_channel (ps : List Pulse) {r : PackRegs} {pos P : Nat} (hr : PackHolds r pos P)
    (hn : r.nbits.toNat < 8) (hpos : pos + 11 * ps.length ≤ 176) :
    PackHolds (ps.foldl PackRegs.channel r) (pos + 11 * ps.length)
      (P + 2 ^ pos * Nat.ofDigits (2 ^ 11) (ps.map fun p => (registerCode p).toNat)) := by
  induction ps generalizing r pos P with
  | nil => simpa using hr
  | cons p ps ih =>
    have hlen : pos + 11 * (p :: ps).length = pos + 11 + 11 * ps.length := by rw [List.length_cons]; ring
    rw [hlen] at hpos ⊢
    rw [List.foldl_cons, List.map_cons, Nat.ofDigits_cons, Nat.mul_add, ← Nat.mul_assoc, ← pow_add, ← Nat.add_assoc]
    exact ih (hr.channel hn (by omega) p) (channel_nbits_lt r p) hpos

theorem packHolds_packRegs (v : ChannelSet) : PackHolds (packRegs v) 176 (packedNumber v) := by
  simpa [packRegs, packedNumber_eq_ofDigits] using packHolds_start.foldl_channel v.toList (by decide) (by simp)

/-- Sixteen codes fill 22 bytes, so nothing is left in `ACC`. -/
theorem payloadNumber_pack (v : ChannelSet) : payloadNumber (pack v) = packedNumber v := by
  obtain ⟨hacc, -, hpos, hnumber⟩ := packHolds_packRegs v
  have hn : (packRegs v).nbits.toNat < 8 := foldl_channel_nbits_lt v.toList (by decide)
  have hn0 : (packRegs v).nbits.toNat = 0 := by omega
  have hacc0 : (packRegs v).acc.toNat = 0 := by simpa [hn0] using hacc
  simpa [pack, hacc0] using hnumber

/-! Bits of the two numbers. -/

theorem payloadNumber_testBit (b : Payload) (k j : Nat) (h : k < 22) (hj : j < 8) :
    (payloadNumber b).testBit (8 * k + j) = b[k].getLsbD j := by
  rw [testBit_of_div_mod hj, payloadNumber_div_mod b k h, BitVec.testBit_toNat]

theorem packedNumber_testBit (v : ChannelSet) (i j : Nat) (h : i < 16) (hj : j < 11) :
    (packedNumber v).testBit (11 * i + j) = (registerCode v[i]).getLsbD j := by
  rw [testBit_of_div_mod hj, packedNumber_div_mod v i h, BitVec.testBit_toNat]

/-- Settles O12: both bits are bit `11 i + j` of the one number that the payload and the codes make (R60). -/
theorem packIsLeastSignificantBitFirst : Obligations.PackIsLeastSignificantBitFirst := by
  intro v
  refine ⟨fun i hi j hj => ?_, payloadNumber_pack v⟩
  rw [← payloadNumber_testBit _ _ _ (by omega) (Nat.mod_lt _ (by decide)), Nat.div_add_mod, payloadNumber_pack,
    packedNumber_testBit v i j hi hj]

end Sys2Proof.Proofs

/-! Command words the decoder refuses (30_encoding, R90). -/

namespace Sys2Proof.Proofs

open Sys2Proof Sys2Proof.Machine

theorem withoutOperands_ok_iff (w : CmdWord) (i : Instr) :
    (∃ j, withoutOperands w i = .ok j) ↔ CmdWord.arg8 w = 0 ∧ CmdWord.data16 w = 0 := by
  unfold withoutOperands
  split
  next ha => exact iff_of_false (by simp) fun h => ha h.1
  next ha => split <;> simp_all

theorem withoutData_ok_iff (w : CmdWord) (i : Instr) :
    (∃ j, withoutData w i = .ok j) ↔ CmdWord.data16 w = 0 := by
  unfold withoutData
  split <;> simp_all

/-- The undefined flags, bits 7:2 of `arg8`, are bits 23:18 of the word (R88, R93). -/
theorem startFlagsDefined_arg8 (w : CmdWord) :
    startFlagsDefined (CmdWord.arg8 w) = true ↔ w.extractLsb' 18 6 = 0 := by
  have h : (CmdWord.arg8 w).extractLsb' 2 6 = w.extractLsb' 18 6 := by
    apply BitVec.eq_of_getLsbD_eq
    intro k hk
    simp only [CmdWord.arg8, BitVec.getLsbD_extractLsb']
    interval_cases k <;> simp
  rw [startFlagsDefined, h, beq_iff_eq]
  rfl

theorem decodeStart_ok_iff (w : CmdWord) :
    (∃ i, decodeStart w = .ok i) ↔ w.extractLsb' 18 6 = 0 := by
  rw [← startFlagsDefined_arg8]
  unfold decodeStart
  split <;> simp_all

/-- The words R90 leaves legal: a defined operation code, `rsv` 0, and 0 in every field or flag the command does not
use. -/
theorem decodeCommand_ok_iff (w : CmdWord) :
    (∃ i, decodeCommand w = .ok i) ↔
      CmdWord.rsv w = 0 ∧ (CmdWord.op w).toNat < 10 ∧
        ((CmdWord.op w).toNat ∈ [0, 5, 6, 7, 8, 9] → CmdWord.arg8 w = 0) ∧
        ((CmdWord.op w).toNat ∈ [0, 2, 3, 5, 6, 7, 8, 9] → CmdWord.data16 w = 0) ∧
        ((CmdWord.op w).toNat = 4 → w.extractLsb' 18 6 = 0) := by
  unfold decodeCommand
  split
  next hrsv => exact iff_of_false (by simp) fun h => hrsv h.1
  next hrsv =>
    have hrsv : CmdWord.rsv w = 0 := not_not.mp hrsv
    match (CmdWord.op w).toNat with
    | 0 | 5 | 6 | 7 | 8 | 9 => simpa [hrsv] using withoutOperands_ok_iff w _
    | 1 => simp [hrsv]
    | 2 | 3 => simpa [hrsv] using withoutData_ok_iff w _
    | 4 => simpa [hrsv] using decodeStart_ok_iff w
    | n + 10 => simp

theorem answersIllegal_of_not_ok {w : CmdWord} (h : ¬∃ i, decodeCommand w = .ok i) : AnswersIllegal w := by
  intro s rest hq
  cases hd : decodeCommand w with
  | ok i => exact absurd ⟨i, hd⟩ h
  | error e => exact step_of_illegal hq hd

/-- Settles O4: R90's list is the complement of the words that decode, and a word that does not decode is refused by
the step itself. -/
theorem illegalWordIsAnsweredIllegalCmd : Obligations.IllegalWordIsAnsweredIllegalCmd := by
  intro w op illegal
  have hiff : illegal ↔ ¬∃ i, decodeCommand w = .ok i := by
    rw [decodeCommand_ok_iff]
    simp only [illegal, op, CmdWord.op, CmdWord.rsv, CmdWord.arg8, CmdWord.data16, List.mem_cons, List.not_mem_nil,
      or_false, ← Nat.not_le]
    tauto
  exact ⟨hiff, fun h => answersIllegal_of_not_ok (hiff.mp h)⟩

end Sys2Proof.Proofs

/-! The fields of the STATUS word and of the response word (30_encoding, R91 and R92). -/

namespace Sys2Proof.Proofs

open Sys2Proof Sys2Proof.Machine

@[simp] theorem getLsbD_flagBit (b : Bool) (k : Nat) : (flagBit b).getLsbD k = (decide (k = 0) && b) := by
  cases b <;> simp [flagBit]

/-- The shifted registers of R92 do not overlap: the STATUS word is its five fields side by side. -/
theorem statusWord_eq_append (s : State) :
    s.statusWord = s.proto ++ (BitVec.ofBool s.protoV ++ (BitVec.ofBool s.loop ++ (s.cnt ++ s.seq.code))) := by
  apply BitVec.eq_of_getLsbD_eq
  intro k hk
  simp only [State.statusWord, BitVec.getLsbD_or, BitVec.getLsbD_shiftLeft, BitVec.getLsbD_setWidth,
    BitVec.getLsbD_append, getLsbD_flagBit]
  interval_cases k <;> simp

theorem statusWord_seq (s : State) : s.statusWord.extractLsb' 0 3 = s.seq.code := by
  rw [statusWord_eq_append, BitVec.extractLsb'_append_eq_of_add_le (by decide),
    BitVec.extractLsb'_append_eq_of_add_le (by decide), BitVec.extractLsb'_append_eq_of_add_le (by decide)]
  exact BitVec.extractLsb'_append_eq_right

theorem statusWord_cnt (s : State) : s.statusWord.extractLsb' 3 4 = s.cnt := by
  rw [statusWord_eq_append, BitVec.extractLsb'_append_eq_of_add_le (by decide),
    BitVec.extractLsb'_append_eq_of_add_le (by decide), BitVec.extractLsb'_append_eq_of_add_le (by decide)]
  exact BitVec.extractLsb'_append_eq_left

theorem statusWord_loop (s : State) : s.statusWord.getLsbD 7 = s.loop := by
  simp only [statusWord_eq_append, BitVec.getLsbD_append]
  simp

theorem statusWord_protoV (s : State) : s.statusWord.getLsbD 8 = s.protoV := by
  simp only [statusWord_eq_append, BitVec.getLsbD_append]
  simp

theorem getpOf_statusWord (s : State) : getpOf s.statusWord = s.proto := by
  rw [statusWord_eq_append]
  exact BitVec.extractLsb'_append_eq_left

theorem responseWord_code (r : Response) : r.word.extractLsb' 16 4 = r.code.number :=
  BitVec.extractLsb'_append_eq_left

theorem responseWord_data (r : Response) : r.word.extractLsb' 0 16 = r.data :=
  BitVec.extractLsb'_append_eq_right

/-- Settles O7: each field by its lemma, and the numbers of `SEQ` and of the response codes by their tables (R22,
R91). -/
theorem statusAndResponseWordsHoldTheirFields : Obligations.StatusAndResponseWordsHoldTheirFields := by
  refine ⟨fun s => ⟨?_, statusWord_cnt s, statusWord_loop s, statusWord_protoV s, getpOf_statusWord s,
    getpOf_statusWord s⟩, resetWith_statusWord, fun r => ⟨?_, responseWord_data r⟩⟩
  · rw [statusWord_seq]
    cases s.seq <;> rfl
  · rw [responseWord_code]
    cases r.code <;> rfl

end Sys2Proof.Proofs

/-! The shape of the frames sent (30_encoding, R86). -/

namespace Sys2Proof.Proofs

open Sys2Proof Sys2Proof.Machine

/-- A `0x55` frame may carry any identifier, the bind flag and any payload. -/
theorem frameShape_hdrCtrl (sel : Byte) (p : Payload) : FrameShape (frameOf hdrCtrl sel p) :=
  ⟨.inl rfl, rfl, rfl, fun h => absurd h (by decide : hdrCtrl ≠ 0x57#8)⟩

/-- A `0x57` frame is built without the bind flag and with an all-zero payload. -/
theorem frameShape_buildFailsafe (pid : BitVec 7) : FrameShape (buildFailsafe pid) := by
  refine ⟨.inr rfl, rfl, rfl, fun _ => ⟨?_, fun k hk => ?_⟩⟩
  · simp [buildFailsafe, BitVec.msb_setWidth]
  · rw [buildFailsafe, frameOf_payload _ _ _ k hk]
    exact Vector.getElem_replicate hk

theorem frameShape_of_builtFrame {par : Params} {f : Frame} (h : BuiltFrame par f) : FrameShape f := by
  obtain rfl | ⟨pid, -, rfl | ⟨v, rfl | rfl⟩⟩ := h
  · exact frameShape_hdrCtrl _ _
  · exact frameShape_buildFailsafe pid
  · exact frameShape_hdrCtrl _ _
  · exact frameShape_hdrCtrl _ _

/-- Settles O18: the invariant says that every frame sent is one of the four builders', and each builder's frame has the
shape. -/
theorem framesSentHaveTheFrameShape : Obligations.FramesSentHaveTheFrameShape :=
  fun _ hs f hf => frameShape_of_builtFrame (hs.sent f hf)

end Sys2Proof.Proofs

/-! ENCODE over the integers, and UNPACK of a packed payload (40_codec, R110 to R112 and R120). -/

namespace Sys2Proof.Proofs

open Sys2Proof Sys2Proof.Machine

/-! The scale, the clamp and the ceiling of ENCODE. -/

/-- The scaled value is the quotient rounded toward minus infinity. -/
theorem scalePulse_le (c : Int) : 5 * scalePulse c ≤ (c - 860) * 8 :=
  Int.mul_ediv_self_le (by decide)

theorem lt_scalePulse_add_one (c : Int) : (c - 860) * 8 < 5 * (scalePulse c + 1) := by
  rw [Int.mul_add, Int.mul_one]
  exact Int.lt_mul_ediv_self_add (by decide)

theorem clampPulse_eq_ite (p : Int) : clampPulse p = if p < 860 then 860 else if 2140 < p then 2140 else p := by
  unfold clampPulse
  split
  next hlow => rw [max_eq_right hlow.le]; rfl
  next hlow =>
    rw [max_eq_left (not_lt.mp hlow)]
    split
    next hhigh => exact min_eq_right hhigh.le
    next hhigh => exact min_eq_left (not_lt.mp hhigh)

theorem le_clampPulse (p : Int) : 860 ≤ clampPulse p :=
  le_min (le_max_right _ _) (by decide)

theorem encodeInt_eq_ite (p : Int) :
    encodeInt p = if scalePulse (clampPulse p) ≤ 2047 then scalePulse (clampPulse p) else 2047 :=
  min_def _ _

/-- The clamp keeps the scaled value from being negative. -/
theorem encodeInt_nonneg (p : Int) : 0 ≤ encodeInt p := by
  have hscale := lt_scalePulse_add_one (clampPulse p)
  have hclamp := le_clampPulse p
  exact le_min (by omega) (by decide)

theorem encodeInt_le (p : Int) : encodeInt p ≤ 2047 :=
  min_le_right _ _

/-- The ceiling is the largest 11-bit number, so no bit of ENCODE is lost in a code. -/
theorem encodePulse_toNat (p : Int) : ((encodePulse p).toNat : Int) = encodeInt p := by
  have hnonneg := encodeInt_nonneg p
  have hle := encodeInt_le p
  rw [encodePulse, BitVec.toNat_ofInt, Int.toNat_of_nonneg (Int.emod_nonneg _ (by decide))]
  exact Int.emod_eq_of_lt hnonneg (by omega)

/-- Settles O8: the scaled value of the clamped input is the integer that the two inequalities pin down, and the code
of a channel register is by definition that of its two's-complement value. -/
theorem encodeClampsScalesAndSaturates : Obligations.EncodeClampsScalesAndSaturates :=
  ⟨clampPulse_eq_ite,
    fun p => ⟨scalePulse (clampPulse p), scalePulse_le _, lt_scalePulse_add_one _, encodeInt_eq_ite p⟩,
    fun p => ⟨encodeInt_nonneg p, encodeInt_le p, encodePulse_toNat p⟩,
    fun v => encodePulse_toNat v.toInt⟩

/-! UNPACK. -/

theorem unpack_toNat (b : Payload) (i : Nat) (h : i < 16) :
    (unpack b)[i].toNat = payloadNumber b / 2 ^ (11 * i) % 2 ^ 11 := by
  simp only [unpack, Vector.getElem_ofFn, BitVec.toNat_ofNat]

/-- Settles O11: a packed payload is the number whose base-2048 digits are the codes, and UNPACK reads digit `i` of
that number. -/
theorem unpackOfPack : Obligations.UnpackOfPack := by
  intro v i h
  apply BitVec.eq_of_toNat_eq
  calc (unpack (pack v))[i].toNat
      = payloadNumber (pack v) / 2 ^ (11 * i) % 2 ^ 11 := unpack_toNat (pack v) i h
    _ = packedNumber v / 2 ^ (11 * i) % 2 ^ 11 := by rw [payloadNumber_pack]
    _ = (registerCode v[i]).toNat := packedNumber_div_mod v i h

end Sys2Proof.Proofs

/-! The bytes of the built frames, and the two parts of `SEL` (41_frame_builder, R131 to R134). -/

namespace Sys2Proof.Proofs

open Sys2Proof Sys2Proof.Machine

theorem zeroPayload_toList : zeroPayload.toList = List.replicate 22 0 := Vector.toList_replicate

/-! `SEL`: the 7 bits of the identifier below the bind flag. -/

theorem sel_msb (pid : BitVec 7) : (pid.setWidth 8 : Byte).msb = false := by
  simp [BitVec.msb_setWidth]

theorem bindSel_msb (pid : BitVec 7) : (pid.setWidth 8 ||| bindFlag).msb = true := by
  rw [BitVec.msb_or, show bindFlag.msb = true from rfl, Bool.or_true]

theorem bindSel_pid (pid : BitVec 7) : (pid.setWidth 8 ||| bindFlag).setWidth 7 = pid := by
  rw [BitVec.setWidth_or, show bindFlag.setWidth 7 = 0#7 from rfl, BitVec.or_zero,
    BitVec.setWidth_setWidth_of_le _ (by decide), BitVec.setWidth_eq]

/-- Settles O15: each builder is the common frame layout of R80 with its own header, `SEL` and payload; byte 1 is
`SEL`. -/
theorem buildersGiveTheirBytes : Obligations.BuildersGiveTheirBytes := by
  intro pid v
  refine ⟨frameOf_toList _ _ _, frameOf_toList _ _ _, ?_, ?_,
    sel_msb pid, bindSel_msb pid, bindSel_pid pid, sel_msb pid⟩
  · rw [buildFailsafe, frameOf_toList, zeroPayload_toList]
  · rw [buildPriming, frameOf_toList, zeroPayload_toList]

end Sys2Proof.Proofs

/-! The words of one operation code: the legal ones decode, the rest are answered `ILLEGAL_CMD` (30_encoding, R89 and
R90). -/

namespace Sys2Proof.Proofs

open Sys2Proof Sys2Proof.Machine

/-- What each command's statement says of its words, from what is legal (R89) and what is illegal (R90). -/
theorem decodes_or_answersIllegal {w : CmdWord} {i : Instr} {P : Prop} [Decidable P]
    (hok : P → decodeCommand w = .ok i) (hlegal : (∃ j, decodeCommand w = .ok j) → P) :
    if P then decodeCommand w = .ok i else AnswersIllegal w := by
  split
  next h => exact hok h
  next h => exact answersIllegal_of_not_ok (mt hlegal h)

/-- The 28 bits below the operation code are `rsv`, `arg8` and `data16` (R88). -/
theorem extractLsb'_low28 (w : CmdWord) :
    w.extractLsb' 0 28 = CmdWord.rsv w ++ (CmdWord.arg8 w ++ CmdWord.data16 w) := by
  rw [CmdWord.arg8, CmdWord.data16, BitVec.extractLsb'_append_extractLsb'_eq_extractLsb' (by decide),
    CmdWord.rsv, BitVec.extractLsb'_append_extractLsb'_eq_extractLsb' (by decide)]

/-- A command without operands is the one word its operation code and 28 zero bits make. -/
theorem bareWordOnly_of_decode {op : BitVec 4} {i : Instr} (hop : op.toNat ∈ [0, 5, 6, 7, 8, 9])
    (hi : decodeCommand (cmdWord op 0 0) = .ok i) : BareWordOnly op.toNat i := by
  intro w hw
  refine decodes_or_answersIllegal (fun h => ?_) fun h => ?_
  · have hword : CmdWord.op w ++ w.extractLsb' 0 28 = w := BitVec.extractLsb'_append_extractLsb' (w := 4) (len := 28)
    rw [← hword, h, show CmdWord.op w = op from BitVec.eq_of_toNat_eq hw]
    exact hi
  · obtain ⟨hrsv, -, harg, hdata, -⟩ := (decodeCommand_ok_iff w).mp h
    have hused : [0, 5, 6, 7, 8, 9] ⊆ [0, 2, 3, 5, 6, 7, 8, 9] := by decide
    rw [show (CmdWord.op w).toNat = op.toNat from hw] at harg hdata
    rw [extractLsb'_low28, hrsv, harg hop, hdata (hused hop)]
    rfl

theorem decodeCommand_setch {w : CmdWord} (hop : (CmdWord.op w).toNat = 1) (hrsv : CmdWord.rsv w = 0) :
    decodeCommand w = .ok (.setch (CmdWord.arg8 w) (CmdWord.data16 w)) := by
  simp [decodeCommand, hop, hrsv]

theorem decodeCommand_getch {w : CmdWord} (hop : (CmdWord.op w).toNat = 2) (hrsv : CmdWord.rsv w = 0)
    (hdata : CmdWord.data16 w = 0) : decodeCommand w = .ok (.getch (CmdWord.arg8 w)) := by
  simp [decodeCommand, withoutData, hop, hrsv, hdata]

theorem decodeCommand_selp {w : CmdWord} (hop : (CmdWord.op w).toNat = 3) (hrsv : CmdWord.rsv w = 0)
    (hdata : CmdWord.data16 w = 0) : decodeCommand w = .ok (.selp (CmdWord.arg8 w)) := by
  simp [decodeCommand, withoutData, hop, hrsv, hdata]

theorem decodeCommand_start {w : CmdWord} (hop : (CmdWord.op w).toNat = 4) (hrsv : CmdWord.rsv w = 0)
    (hflags : w.extractLsb' 18 6 = 0) :
    decodeCommand w = .ok (.start (CmdWord.arg8 w) (CmdWord.data16 w)) := by
  simp [decodeCommand, decodeStart, hop, hrsv, (startFlagsDefined_arg8 w).mpr hflags]

end Sys2Proof.Proofs

/-! What each command does outside FAULT, and the refusals in the order of their checks (42_commands, R150). -/

namespace Sys2Proof.Proofs

open Sys2Proof Sys2Proof.Machine

/-! The operands. -/

theorem channelOf_of_lt {idx : BitVec 8} (h : idx.toNat < 16) : channelOf idx = some ⟨idx.toNat, h⟩ := dif_pos h

theorem channelOf_of_le {idx : BitVec 8} (h : 16 ≤ idx.toNat) : channelOf idx = none := dif_neg (not_lt.mpr h)

/-- An identifier has 7 bits and an operand 8: they are compared as numbers. -/
theorem setWidth_beq_iff (p : BitVec 7) (id : BitVec 8) : (p.setWidth 8 == id) = true ↔ p.toNat = id.toNat := by
  rw [beq_iff_eq, ← BitVec.toNat_inj, BitVec.toNat_setWidth_of_le (by decide)]

theorem protocolOf_eq_none_iff (par : Params) (id : BitVec 8) :
    protocolOf par id = none ↔ ∀ p ∈ par.protoSet, p.toNat ≠ id.toNat := by
  simp only [protocolOf, List.find?_eq_none, setWidth_beq_iff, ne_eq]

/-- At most one identifier has the operand's value, so the search finds that one. -/
theorem protocolOf_of_mem {par : Params} {id : BitVec 8} {p : BitVec 7} (hp : p ∈ par.protoSet)
    (hid : p.toNat = id.toNat) : protocolOf par id = some p := by
  cases hfind : protocolOf par id with
  | none => exact absurd hid ((protocolOf_eq_none_iff par id).mp hfind p hp)
  | some q =>
    rw [protocolOf] at hfind
    have hq := List.find?_some hfind
    rw [setWidth_beq_iff] at hq
    rw [BitVec.eq_of_toNat_eq (hq.trans hid.symm)]

/-- R155 writes the duration as a number of milliseconds; the model multiplies at 26 bits. -/
theorem bindLimitOf_eq_ofNat (secs : BitVec 16) : bindLimitOf secs = BitVec.ofNat 26 (secs.toNat * 1000) := by
  apply BitVec.eq_of_toNat_eq
  simp [bindLimitOf, bindUnitMs]

/-! The commands past the FAULT check. -/

section
variable {s : State} (h : s.seq ≠ .fault)
include h

theorem exec_setch (idx : BitVec 8) (val : Pulse) : exec (.setch idx val) s = .next (s.writeChannel idx val) :=
  congrArg Host.Outcome.next (s.unlessFault_other _ h)

theorem exec_selp (id : BitVec 8) : exec (.selp id) s = .next (s.chooseProtocol id) :=
  congrArg Host.Outcome.next (s.unlessFault_other _ h)

theorem exec_start {flags : BitVec 8} (secs : BitVec 16) (hw : WellFormed (.start flags secs) = true) :
    exec (.start flags secs) s = .next (s.startSession flags secs) :=
  congrArg Host.Outcome.next ((if_pos hw).trans (s.unlessFault_other _ h))

theorem exec_send : exec .send s = .next s.sendFrame :=
  congrArg Host.Outcome.next (s.unlessFault_other _ h)

theorem exec_loopon : exec .loopon s = .next s.turnLoopOn :=
  congrArg Host.Outcome.next (s.unlessFault_other _ h)

theorem exec_loopoff : exec .loopoff s = .next s.turnLoopOff :=
  congrArg Host.Outcome.next (s.unlessFault_other _ h)

theorem exec_stop : exec .stop s = .next s.stopSession :=
  congrArg Host.Outcome.next (s.unlessFault_other _ h)

end

/-! The refusals. -/

/-- Step 2 of R150: in FAULT only NOP, GETCH and STATUS get past the check. -/
theorem exec_transportError {i : Instr} {s : State} (hi : i.isCommand = true) (hw : WellFormed i = true)
    (hq : s.seq = .fault) (ha : i.acceptedInFault = false) : exec i s = .next (s.respond .transportError 0) := by
  cases i with
  | nop | getch | status => cases ha
  | frameControl | frameBind | framePriming | frameFailsafe => cases hi
  | start flags secs => exact congrArg Host.Outcome.next ((if_pos hw).trans (s.unlessFault_fault _ hq))
  | setch | selp | send | loopon | loopoff | stop => exact congrArg Host.Outcome.next (s.unlessFault_fault _ hq)

/-- Step 3 of R150: only SELP, START and SEND look at the state. -/
theorem exec_stateError {i : Instr} {s : State} (hw : WellFormed i = true) (hq : s.seq ≠ .fault)
    (ha : i.acceptedIn s.seq = false) : exec i s = .next (s.respond .stateError 0) := by
  cases i with
  | selp id => rw [exec_selp hq, State.chooseProtocol, if_pos (beq_eq_false_iff_ne.mp ha), State.refuse_eq]
  | start flags secs =>
    rw [exec_start hq secs hw, State.startSession, if_pos (beq_eq_false_iff_ne.mp ha), State.refuse_eq]
  | send => rw [exec_send hq, State.sendFrame, if_pos (beq_eq_false_iff_ne.mp ha), State.refuse_eq]
  | nop | setch | getch | loopon | loopoff | stop | status => cases ha
  | frameControl | frameBind | framePriming | frameFailsafe => cases ha

theorem ne_idle_of_inSession {q : SeqState} (h : q.inSession = true) : q ≠ .idle := by rintro rfl; cases h

theorem ne_fault_of_inSession {q : SeqState} (h : q.inSession = true) : q ≠ .fault := by rintro rfl; cases h

theorem ne_streaming_of_idle_or_inBurst {q : SeqState} (h : q = .idle ∨ q.inBurst = true) : q ≠ .streaming := by
  rintro rfl
  rcases h with h | h <;> cases h

theorem ne_fault_of_idle_or_inBurst {q : SeqState} (h : q = .idle ∨ q.inBurst = true) : q ≠ .fault := by
  rintro rfl
  rcases h with h | h <;> cases h

end Sys2Proof.Proofs

/-! The commands that read and write registers (42_commands, R151 to R154 and R160). -/

namespace Sys2Proof.Proofs

open Sys2Proof Sys2Proof.Machine

theorem writeChannel_of_lt (s : State) {idx : BitVec 8} (h : idx.toNat < 16) (val : Pulse) :
    s.writeChannel idx val = { s with ch := s.ch.set idx.toNat val, rsp := s.rsp ++ [⟨.ok, 0⟩] } := by
  rw [State.writeChannel, channelOf_of_lt h]
  rfl

theorem writeChannel_of_le (s : State) {idx : BitVec 8} (h : 16 ≤ idx.toNat) (val : Pulse) :
    s.writeChannel idx val = s.respond .configError 0 := by
  rw [State.writeChannel, channelOf_of_le h]
  rfl

theorem readChannel_of_lt (s : State) {idx : BitVec 8} (h : idx.toNat < 16) :
    s.readChannel idx = s.respond .ok s.ch[idx.toNat] := by
  rw [State.readChannel, channelOf_of_lt h]
  rfl

theorem readChannel_of_le (s : State) {idx : BitVec 8} (h : 16 ≤ idx.toNat) :
    s.readChannel idx = s.respond .configError 0 := by
  rw [State.readChannel, channelOf_of_le h]
  rfl

theorem chooseProtocol_of_mem {s : State} {id : BitVec 8} {p : BitVec 7} (hq : s.seq = .idle)
    (hp : p ∈ s.par.protoSet) (hid : p.toNat = id.toNat) :
    s.chooseProtocol id = { s with proto := p, protoV := true, rsp := s.rsp ++ [⟨.ok, 0⟩] } := by
  rw [State.chooseProtocol, if_neg (not_not.mpr hq), protocolOf_of_mem hp hid]
  rfl

theorem chooseProtocol_of_not_mem {s : State} {id : BitVec 8} (hq : s.seq = .idle)
    (hid : ∀ p ∈ s.par.protoSet, p.toNat ≠ id.toNat) : s.chooseProtocol id = s.respond .configError 0 := by
  rw [State.chooseProtocol, if_neg (not_not.mpr hq), (protocolOf_eq_none_iff s.par id).mpr hid]
  rfl

/-- Settles O22: the words by `bareWordOnly_of_decode`; the rest is one response. -/
theorem nopOnlyResponds : Obligations.NopOnlyResponds :=
  ⟨bareWordOnly_of_decode (op := 0) (by decide) (by decide), fun _ => rfl⟩

/-- Settles O23: SETCH is not refused for its state outside FAULT, and `channelOf` decides the rest. -/
theorem setchWritesOneChannel : Obligations.SetchWritesOneChannel := by
  refine ⟨fun w hop => decodes_or_answersIllegal (decodeCommand_setch hop) fun h => ((decodeCommand_ok_iff w).mp h).1,
    fun s idx val => ⟨fun hq h => ?_, fun hq h => ?_, fun hq => exec_transportError rfl rfl hq rfl⟩⟩
  · rw [exec_setch hq, writeChannel_of_lt s h]
  · rw [exec_setch hq, writeChannel_of_le s h]
    rfl

/-- Settles O24: GETCH has no state check, and `channelOf` decides the answer. -/
theorem getchReadsTheRawChannel : Obligations.GetchReadsTheRawChannel := by
  refine ⟨fun w hop => decodes_or_answersIllegal (fun h => decodeCommand_getch hop h.1 h.2) fun h => ?_,
    fun s idx => ⟨fun h => congrArg Host.Outcome.next (readChannel_of_lt s h),
      fun h => congrArg Host.Outcome.next (readChannel_of_le s h)⟩⟩
  obtain ⟨hrsv, -, -, hdata, -⟩ := (decodeCommand_ok_iff w).mp h
  exact ⟨hrsv, hdata (by rw [CmdWord.op, hop]; decide)⟩

/-- Settles O26: the state check comes first, then `protocolOf` finds the one identifier equal to the operand. -/
theorem selpSelectsTheProtocol : Obligations.SelpSelectsTheProtocol := by
  refine ⟨fun w hop => decodes_or_answersIllegal (fun h => decodeCommand_selp hop h.1 h.2) fun h => ?_,
    fun s id => ⟨fun p hp hq hid => ?_, fun hq hid => ?_, fun hq => ?_, fun hq => exec_transportError rfl rfl hq rfl⟩⟩
  · obtain ⟨hrsv, -, -, hdata, -⟩ := (decodeCommand_ok_iff w).mp h
    exact ⟨hrsv, hdata (by rw [CmdWord.op, hop]; decide)⟩
  · rw [exec_selp (by simp [hq]), chooseProtocol_of_mem hq hp hid.symm]
  · rw [exec_selp (by simp [hq]), chooseProtocol_of_not_mem hq fun p hp => (hid p hp).symm]
    rfl
  · exact exec_stateError rfl (ne_fault_of_inSession hq) (beq_eq_false_iff_ne.mpr (ne_idle_of_inSession hq))

/-- A flag of the STATUS word as R160 writes it, a number shifted into its place. -/
theorem flagBit_shiftLeft (b : Bool) (k : Nat) :
    flagBit b <<< k = (((if b then 1 else 0) <<< k : Nat) : BitVec 16) := by
  apply BitVec.eq_of_toNat_eq
  cases b <;> simp [flagBit]

/-- Settles O32: the words by `bareWordOnly_of_decode`; the rest is one response with the STATUS word, in which the two
flags are numbers. -/
theorem statusOnlyResponds : Obligations.StatusOnlyResponds := by
  refine ⟨bareWordOnly_of_decode (op := 9) (by decide) (by decide), fun s => ?_⟩
  rw [← flagBit_shiftLeft, ← flagBit_shiftLeft]
  rfl

end Sys2Proof.Proofs

/-! START: the session registers and the first slot (42_commands, R155). -/

namespace Sys2Proof.Proofs

open Sys2Proof Sys2Proof.Machine

theorem slotPriming_of_lt {s : State} (h : s.cnt < burstN) :
    s.slotPriming = { s.emitPriming with cnt := s.cnt + 1, slotT := gapMs } := if_pos h

theorem slotFailsafe_of_lt {s : State} (h : s.cnt < burstN) :
    s.slotFailsafe = { s.emitFailsafe with cnt := s.cnt + 1, slotT := gapMs } := if_pos h

theorem enterStreaming_of_loop {s : State} (h : s.loop = true) :
    s.enterStreaming = { s.emitControl with seq := .streaming, cnt := 0, slotT := s.par.streamPeriodMs } := if_pos h

theorem enterStreaming_of_not_loop {s : State} (h : s.loop = false) :
    s.enterStreaming = { s with seq := .streaming, cnt := 0, slotT := 0 } := if_neg (by simp [h])

/-- An accepted START loads the session, begins it and responds. -/
theorem nextUpToWork_exec_start {s t u : State} {flags : BitVec 8} {secs : BitVec 16}
    (hw : WellFormed (.start flags secs) = true) (hq : s.seq = .idle) (hp : s.protoV = true)
    (hu : (s.loadSession flags secs).beginSession = u)
    (ht : u.done = { t with acc := u.acc, nbits := u.nbits, bufs := u.bufs, freeIdx := u.freeIdx }) :
    NextUpToWork (exec (.start flags secs) s) t :=
  ⟨u.done, by rw [exec_start_accepted secs hw hq hp, hu], ht⟩

/-- Settles O27: an accepted START is `loadSession`, then the first slot of the state `beginSession` chooses, in which
`CNT` is still 0. -/
theorem startBeginsTheSession : Obligations.StartBeginsTheSession := by
  refine ⟨fun w hop => decodes_or_answersIllegal (fun h => decodeCommand_start hop h.1 h.2) fun h => ?_,
    fun s flags secs hw => ?_⟩
  · obtain ⟨hrsv, -, -, -, hflags⟩ := (decodeCommand_ok_iff w).mp h
    exact ⟨hrsv, hflags hop⟩
  have hcnt : (s.loadSession flags secs).cnt < burstN := show (0 : BitVec 4) < burstN by decide
  have hskip (hprime : s.par.primeAlways = false) (hbind : flags.getLsbD 0 = false) :
      ¬(s.par.primeAlways = true ∨ flags.getLsbD 0 = true) := by
    rw [hprime, hbind]
    decide
  rw [← bindLimitOf_eq_ofNat]
  refine ⟨fun hq hp => ⟨fun hprime => ?_, fun hprime hbind hfs => ?_,
    fun hprime hbind hfs => ⟨fun hloop => ?_, fun hloop => ?_⟩⟩, fun hq hp => ?_, fun hq => ?_,
    fun hq => exec_transportError rfl hw hq rfl⟩
  · exact nextUpToWork_exec_start hw hq hp
      ((State.beginSession_priming (s := s.loadSession flags secs) hprime).trans (slotPriming_of_lt hcnt)) rfl
  · exact nextUpToWork_exec_start hw hq hp
      ((State.beginSession_failsafe (s := s.loadSession flags secs) (hskip hprime hbind) hfs).trans
        (slotFailsafe_of_lt hcnt)) rfl
  · exact nextUpToWork_exec_start hw hq hp
      ((State.beginSession_streaming (s := s.loadSession flags secs) (hskip hprime hbind) hfs).trans
        (enterStreaming_of_loop hloop)) rfl
  · exact nextUpToWork_exec_start hw hq hp
      ((State.beginSession_streaming (s := s.loadSession flags secs) (hskip hprime hbind) hfs).trans
        (enterStreaming_of_not_loop hloop)) rfl
  · rw [exec_start (by simp [hq]) secs hw, State.startSession, if_neg (not_not.mpr hq), if_pos hp]
    rfl
  · exact exec_stateError hw (ne_fault_of_inSession hq) (beq_eq_false_iff_ne.mpr (ne_idle_of_inSession hq))

end Sys2Proof.Proofs

/-! SEND, LOOPON, LOOPOFF and STOP (42_commands, R156 to R159). -/

namespace Sys2Proof.Proofs

open Sys2Proof Sys2Proof.Machine

/-- `LOOP` decides only whether the period starts again. -/
theorem sendFrame_streaming {s : State} (h : s.seq = .streaming) :
    s.sendFrame =
      State.done { s.emitControl with slotT := if s.loop = true then s.par.streamPeriodMs else s.slotT } := by
  rw [State.sendFrame, if_neg (not_not.mpr h)]
  split <;> rfl

/-- Settles O28: in STREAMING SEND is one `emitControl` with the slot timer of `sendFrame_streaming`; elsewhere the
state check refuses it. -/
theorem sendEmitsOneControlFrame : Obligations.SendEmitsOneControlFrame := by
  refine ⟨bareWordOnly_of_decode (op := 5) (by decide) (by decide), fun s => ⟨fun hq => ?_, fun hq => ?_,
    fun hq => exec_transportError rfl rfl hq rfl⟩⟩
  · rw [exec_send (by simp [hq]), sendFrame_streaming hq]
    exact ⟨_, rfl, rfl⟩
  · exact exec_stateError rfl (ne_fault_of_idle_or_inBurst hq)
      (beq_eq_false_iff_ne.mpr (ne_streaming_of_idle_or_inBurst hq))

/-- Settles O29: the cases are the branches of `turnLoopOn`, which looks at `LOOP` before the state. -/
theorem looponTurnsTheLoopOn : Obligations.LooponTurnsTheLoopOn := by
  refine ⟨bareWordOnly_of_decode (op := 6) (by decide) (by decide), fun s => ⟨fun hq hloop => ?_,
    fun hq hloop => ?_, fun hq hf hloop => ?_, fun hq => exec_transportError rfl rfl hq rfl⟩⟩
  · rw [exec_loopon hq, State.turnLoopOn, if_pos hloop]
    rfl
  · rw [exec_loopon (by simp [hq]), State.turnLoopOn, if_neg (by simp [hloop]), if_pos hq]
    exact ⟨_, rfl, rfl⟩
  · rw [exec_loopon hf, State.turnLoopOn, if_neg (by simp [hloop]), if_neg hq]
    rfl

/-- Settles O30: only in STREAMING does `turnLoopOff` touch the slot timer. -/
theorem loopoffTurnsTheLoopOff : Obligations.LoopoffTurnsTheLoopOff := by
  refine ⟨bareWordOnly_of_decode (op := 7) (by decide) (by decide), fun s => ⟨fun hq => ?_, fun hq hf => ?_,
    fun hq => exec_transportError rfl rfl hq rfl⟩⟩
  · rw [exec_loopoff (by simp [hq]), State.turnLoopOff, if_pos hq]
    rfl
  · rw [exec_loopoff hf, State.turnLoopOff, if_neg hq]
    rfl

/-- Settles O31: outside FAULT STOP is one update of the state, `stopSession`. -/
theorem stopEndsTheSession : Obligations.StopEndsTheSession :=
  ⟨bareWordOnly_of_decode (op := 8) (by decide) (by decide), fun _ => ⟨fun hq => exec_stop hq,
    fun hq => exec_transportError rfl rfl hq rfl⟩⟩

end Sys2Proof.Proofs

/-! The TICK that ends the slot timer, and the slot in STREAMING (43_sequencer, R183 and R189). -/

namespace Sys2Proof.Proofs

open Sys2Proof Sys2Proof.Machine

theorem step_of_slot {s : State} {rest : List Event} (hq : s.inq = .tick :: rest) (ht : s.slotT = 1) :
    step s = .next (State.slot { s with inq := rest, bindElapsed := s.elapsedAfterTick, slotT := 0 }) :=
  (step_of_tick hq).trans (congrArg Host.Outcome.next (State.tick_fires (s := { s with inq := rest }) ht))

theorem slot_of_streaming {s : State} (h : s.seq = .streaming) : s.slot = s.slotStreaming := by
  rw [State.slot, h]

theorem slotStreaming_of_loop {s : State} (h : s.loop = true) :
    s.slotStreaming = { s.emitControl with slotT := s.par.streamPeriodMs } := if_pos h

theorem slotStreaming_of_not_loop {s : State} (h : s.loop = false) :
    s.slotStreaming = { s with slotT := 0 } := if_neg (by simp [h])

/-- In STREAMING the bind time stands still, so the TICK is the slot action alone. -/
theorem step_of_streaming_slot {s : State} {rest : List Event} (hq : s.inq = .tick :: rest) (ht : s.slotT = 1)
    (hseq : s.seq = .streaming) :
    step s = .next (State.slotStreaming { s with inq := rest, slotT := 0 }) := by
  rw [step_of_slot hq ht, State.elapsedAfterTick_other (by simp [hseq])]
  exact congrArg Host.Outcome.next (slot_of_streaming hseq)

/-- Settles O40: the step is `slotStreaming`, and `LOOP` decides between one `emitControl` with the period and the
stopped timer. -/
theorem streamingSlot : Obligations.StreamingSlot := by
  intro s rest hq ht hseq
  rw [step_of_streaming_slot hq ht hseq]
  refine ⟨fun hloop => ?_, fun hloop => ?_⟩
  · exact ⟨_, congrArg Host.Outcome.next (slotStreaming_of_loop hloop), rfl⟩
  · exact ⟨_, congrArg Host.Outcome.next (slotStreaming_of_not_loop hloop), rfl⟩

end Sys2Proof.Proofs

/-! The first failing check of a command, and the one response (60_exceptions, R217). -/

namespace Sys2Proof.Proofs

open Sys2Proof Sys2Proof.Machine

theorem acceptedIn_of_acceptedInFault {i : Instr} (h : i.acceptedInFault = true) (q : SeqState) :
    i.acceptedIn q = true := by
  cases i with
  | nop | getch | status => rfl
  | setch | selp | start | send | loopon | loopoff | stop => cases h
  | frameControl | frameBind | framePriming | frameFailsafe => cases h

theorem beginSession_rsp (s : State) : s.beginSession.rsp = s.rsp := by
  unfold State.beginSession
  split
  · exact (State.slotPriming_keeps _).rsp
  · split
    · exact (State.slotFailsafe_keeps _).rsp
    · exact s.enterStreaming_keeps.rsp

theorem turnLoopOn_rsp (s : State) : s.turnLoopOn.rsp = s.rsp ++ [⟨.ok, 0⟩] := by
  unfold State.turnLoopOn
  split
  · rfl
  · split <;> rfl

theorem turnLoopOff_rsp (s : State) : s.turnLoopOff.rsp = s.rsp ++ [⟨.ok, 0⟩] := by
  unfold State.turnLoopOff
  split <;> rfl

section
variable {i : Instr} {s : State} (hw : WellFormed i = true) (hf : s.seq = .fault → i.acceptedInFault = true)
  (ha : i.acceptedIn s.seq = true)
include hw hf ha

/-- Step 4 of R150: the four causes of ConfigurationError (R211). -/
theorem exec_configError (ho : i.operandsValid s = false) : exec i s = .next (s.respond .configError 0) := by
  cases i with
  | setch idx val =>
    rw [exec_setch (fun h => nomatch hf h), writeChannel_of_le s (not_le.mp (of_decide_eq_false ho))]
  | getch idx =>
    exact congrArg Host.Outcome.next (readChannel_of_le s (not_le.mp (of_decide_eq_false ho)))
  | selp id =>
    rw [exec_selp (fun h => nomatch hf h), chooseProtocol_of_not_mem (beq_iff_eq.mp ha)]
    exact fun p hp => mt beq_iff_eq.mpr (List.any_eq_false.mp ho p hp)
  | start flags secs =>
    rw [exec_start (fun h => nomatch hf h) secs hw, State.startSession, if_neg (not_not.mpr (beq_iff_eq.mp ha))]
    exact congrArg Host.Outcome.next (if_pos ho)
  | nop | send | loopon | loopoff | stop | status => cases ho
  | frameControl | frameBind | framePriming | frameFailsafe => cases ho

/-- A command that passes its checks is answered OK, once; GETCH and STATUS answer with data. -/
theorem exec_ok (hi : i.isCommand = true) (ho : i.operandsValid s = true) :
    ∃ t d, exec i s = .next t ∧ t.rsp = s.rsp ++ [⟨.ok, d⟩] := by
  cases i with
  | nop => exact ⟨s.done, 0, rfl, rfl⟩
  | status => exact ⟨s.respond .ok s.statusWord, s.statusWord, rfl, rfl⟩
  | getch idx =>
    have hlt : idx.toNat < 16 := Nat.lt_succ_of_le (of_decide_eq_true ho)
    exact ⟨_, s.ch[idx.toNat], congrArg Host.Outcome.next (readChannel_of_lt s hlt), rfl⟩
  | setch idx val =>
    have hlt : idx.toNat < 16 := Nat.lt_succ_of_le (of_decide_eq_true ho)
    refine ⟨_, 0, exec_setch (fun h => nomatch hf h) idx val, ?_⟩
    rw [writeChannel_of_lt s hlt]
  | selp id =>
    obtain ⟨p, hp, hid⟩ := List.any_eq_true.mp ho
    refine ⟨_, 0, exec_selp (fun h => nomatch hf h) id, ?_⟩
    rw [chooseProtocol_of_mem (beq_iff_eq.mp ha) hp (beq_iff_eq.mp hid)]
  | start flags secs =>
    refine ⟨_, 0, exec_start_accepted secs hw (beq_iff_eq.mp ha) ho, ?_⟩
    rw [State.done_eq, State.respond_rsp, beginSession_rsp, State.loadSession_rsp]
  | send =>
    refine ⟨_, 0, exec_send (fun h => nomatch hf h), ?_⟩
    rw [sendFrame_streaming (beq_iff_eq.mp ha)]
    rfl
  | loopon => exact ⟨_, 0, exec_loopon (fun h => nomatch hf h), turnLoopOn_rsp s⟩
  | loopoff => exact ⟨_, 0, exec_loopoff (fun h => nomatch hf h), turnLoopOff_rsp s⟩
  | stop => exact ⟨_, 0, exec_stop (fun h => nomatch hf h), rfl⟩
  | frameControl | frameBind | framePriming | frameFailsafe => cases hi

end

/-- Settles O33: one lemma per check, in the order in which `firstFailure` makes them. -/
theorem firstFailingCheckIsReported : Obligations.FirstFailingCheckIsReported := by
  refine ⟨fun w h => answersIllegal_of_not_ok (not_exists.mpr h), fun i s hi hw => ?_⟩
  unfold Instr.firstFailure
  split
  next hfault =>
    obtain ⟨hq, ha⟩ := hfault
    exact ⟨fun _ hc => Option.some.inj hc ▸ exec_transportError hi hw hq ha, nofun⟩
  next hfault =>
    have hf (hq : s.seq = .fault) : i.acceptedInFault = true := by simpa [hq] using hfault
    split
    next hstate =>
      have hq : s.seq ≠ .fault := fun hq => by simp [acceptedIn_of_acceptedInFault (hf hq)] at hstate
      exact ⟨fun _ hc => Option.some.inj hc ▸ exec_stateError hw hq hstate, nofun⟩
    next hstate =>
      have ha : i.acceptedIn s.seq = true := eq_true_of_ne_false hstate
      split
      next ho => exact ⟨fun _ hc => Option.some.inj hc ▸ exec_configError hw hf ha ho, nofun⟩
      next ho => exact ⟨nofun, fun _ => exec_ok hw hf ha hi (eq_true_of_ne_false ho)⟩

end Sys2Proof.Proofs

/-! The block in FAULT: what every event but RST leaves unchanged (60_exceptions, R220 and R221). -/

namespace Sys2Proof.Proofs

open Sys2Proof Sys2Proof.Machine

theorem withoutOperands_eq_ok {w : CmdWord} {i j : Instr} (h : withoutOperands w i = .ok j) : j = i := by
  unfold withoutOperands at h
  split at h
  · cases h
  · split at h <;> cases h
    rfl

theorem withoutData_eq_ok {w : CmdWord} {i j : Instr} (h : withoutData w i = .ok j) : j = i := by
  unfold withoutData at h
  split at h <;> cases h
  rfl

theorem isCommand_and_wellFormed_of_decodeStart {w : CmdWord} {i : Instr} (h : decodeStart w = .ok i) :
    i.isCommand = true ∧ WellFormed i = true := by
  unfold decodeStart at h
  split at h
  next hflags =>
    cases h
    exact ⟨rfl, hflags⟩
  next => cases h

/-- Every word that decodes is a command whose term has an encoding (R90, R97). -/
theorem isCommand_and_wellFormed_of_decodeCommand {w : CmdWord} {i : Instr} (h : decodeCommand w = .ok i) :
    i.isCommand = true ∧ WellFormed i = true := by
  unfold decodeCommand at h
  split at h
  · cases h
  · generalize (CmdWord.op w).toNat = op at h
    match op, h with
    | 0, h | 5, h | 6, h | 7, h | 8, h | 9, h =>
      obtain rfl := withoutOperands_eq_ok h
      exact ⟨rfl, rfl⟩
    | 1, h =>
      cases h
      exact ⟨rfl, rfl⟩
    | 2, h | 3, h =>
      obtain rfl := withoutData_eq_ok h
      exact ⟨rfl, rfl⟩
    | 4, h => exact isCommand_and_wellFormed_of_decodeStart h
    | _ + 10, h => cases h

/-! Each event in FAULT. -/

theorem slot_of_fault {s : State} (h : s.seq = .fault) : s.slot = s := by
  rw [State.slot, h]

/-- In FAULT a TICK only counts down a slot timer that runs, and its end sends nothing. -/
theorem tick_of_fault {s : State} (h : s.seq = .fault) :
    s.tick = { s with slotT := if s.slotT = 0 then 0 else s.slotT - 1 } := by
  have helapsed : s.elapsedAfterTick = s.bindElapsed := State.elapsedAfterTick_other (by simp [h])
  by_cases h0 : s.slotT = 0
  · rw [State.tick_stopped h0, helapsed, if_pos h0, ← h0]
  by_cases h1 : s.slotT = 1
  · rw [State.tick_fires h1, helapsed, if_neg h0, h1]
    exact slot_of_fault h
  · rw [State.tick_counts h0 h1, helapsed, if_neg h0]

/-- In FAULT a command only responds: NOP, GETCH and STATUS with their answer, the others with a refusal. -/
theorem exec_of_fault {i : Instr} {s : State} (hi : i.isCommand = true) (hw : WellFormed i = true)
    (hq : s.seq = .fault) : ∃ c d, exec i s = .next (s.respond c d) := by
  cases ha : i.acceptedInFault with
  | false => exact ⟨_, _, exec_transportError hi hw hq ha⟩
  | true =>
    cases i with
    | nop => exact ⟨.ok, 0, rfl⟩
    | status => exact ⟨.ok, s.statusWord, rfl⟩
    | getch idx =>
      rcases lt_or_ge idx.toNat 16 with h | h
      · exact ⟨_, _, congrArg Host.Outcome.next (readChannel_of_lt s h)⟩
      · exact ⟨_, _, congrArg Host.Outcome.next (readChannel_of_le s h)⟩
    | setch | selp | start | send | loopon | loopoff | stop => cases ha
    | frameControl | frameBind | framePriming | frameFailsafe => cases ha

/-! Any number of events in FAULT. -/

/-- `t` is `s` with `n` events taken from the queue, and otherwise unchanged but for responses, `TERR` and `SLOT_T`, of
which `TERR` is not cleared and a stopped `SLOT_T` is not started. -/
structure FrozenInFault (n : Nat) (s t : State) : Prop where
  eq : t = { s with inq := s.inq.drop n, rsp := t.rsp, terr := t.terr, slotT := t.slotT }
  terr : s.terr = true → t.terr = true
  slotT : s.slotT = 0 → t.slotT = 0

theorem FrozenInFault.trans {m n : Nat} {s u t : State} (hu : FrozenInFault m s u) (ht : FrozenInFault n u t) :
    FrozenInFault (m + n) s t where
  eq := by
    rw [← List.drop_drop]
    refine ht.eq.trans ?_
    rw [hu.eq]
  terr := ht.terr ∘ hu.terr
  slotT := ht.slotT ∘ hu.slotT

/-- One step in FAULT on anything but RST. -/
theorem frozenInFault_step {s t : State} (hq : s.seq = .fault) (hrst : ∀ e ∈ s.inq.take 1, e ≠ .rst)
    (h : step s = .next t) : FrozenInFault 1 s t := by
  obtain ⟨hnil, rfl⟩ | ⟨rest, hinq, rfl⟩ | ⟨rest, hinq, rfl⟩ | ⟨rest, hinq, rfl⟩ | ⟨w, rest, e, hinq, -, rfl⟩ |
    ⟨w, rest, i, hinq, hd, hexec⟩ := step_cases h
  · have hdrop : t.inq.drop 1 = t.inq := by rw [hnil]; rfl
    exact ⟨by rw [hdrop], id, id⟩
  · exact absurd rfl (hrst .rst (by simp [hinq]))
  · refine ⟨?_, fun _ => rfl, fun _ => rfl⟩
    rw [State.takeTransportError, hinq, ← hq]
    rfl
  · rw [tick_of_fault (s := { s with inq := rest }) hq]
    exact ⟨by rw [hinq]; rfl, id, fun h0 => if_pos h0⟩
  · exact ⟨by rw [hinq]; rfl, id, id⟩
  · obtain ⟨hi, hw⟩ := isCommand_and_wellFormed_of_decodeCommand hd
    obtain ⟨c, d, hcd⟩ := exec_of_fault (s := { s with inq := rest }) hi hw hq
    cases hexec.symm.trans hcd
    exact ⟨by rw [hinq]; rfl, id, id⟩

/-- A run in FAULT without RST. -/
theorem frozenInFault_run {n : Nat} {s t : State} (hq : s.seq = .fault) (hrst : ∀ e ∈ s.inq.take n, e ≠ .rst)
    (h : Host.Core.run Sys2Proof.core n s = .next t) : FrozenInFault n s t := by
  induction n generalizing s with
  | zero =>
    obtain rfl := run_zero h
    exact ⟨rfl, id, id⟩
  | succ n ih =>
    obtain ⟨u, hstep, hrun⟩ := run_succ h
    have hu : FrozenInFault 1 s u :=
      frozenInFault_step hq (fun e he => hrst e (List.take_subset_take_left s.inq (by omega) he)) hstep
    have hinq : u.inq.take n = (s.inq.take (n + 1)).drop 1 := by
      rw [hu.eq, List.drop_take]
      rfl
    rw [Nat.add_comm]
    refine hu.trans (ih ?_ (fun e he => hrst e (List.mem_of_mem_drop (hinq ▸ he))) hrun)
    rw [hu.eq]
    exact hq

/-- Settles O49: the step is `takeTransportError`, and the run goes on in FAULT. -/
theorem transportErrorEntersFault : Obligations.TransportErrorEntersFault := by
  intro s rest hinq
  refine ⟨step_of_txerr hinq, fun n t hrst hrun => ?_⟩
  rw [run_step (step_of_txerr hinq)] at hrun
  rw [(frozenInFault_run rfl hrst hrun).eq]
  rfl

/-- Settles O50: the runs by `frozenInFault_run`; the invariant says that in FAULT `SLOT_T` is 0 and `TERR` is 1. -/
theorem faultIsLeftOnlyByReset : Obligations.FaultIsLeftOnlyByReset := by
  refine ⟨fun n s t hinv hq hrst hrun => ?_, fun n s t hq hrst hrun => ?_,
    fun s hq => exec_transportError rfl rfl hq rfl, fun s rest hinq => ⟨_, step_of_rst hinq, rfl, rfl⟩⟩
  · obtain ⟨heq, hterr, hslot⟩ := frozenInFault_run hq hrst hrun
    have hs0 : s.slotT = 0 := not_ne_iff.mp (mt hinv.timerRuns.mp (by simp [hq, SeqState.inBurst]))
    have hs1 : s.terr = true := hinv.terrIsFault.mpr hq
    rw [hterr hs1, hslot hs0, ← hs1, ← hs0] at heq
    exact ⟨heq, hslot hs0, hterr hs1⟩
  · have hfrozen := frozenInFault_run hq hrst hrun
    exact ⟨t.slotT, hfrozen.eq, hfrozen.terr⟩

end Sys2Proof.Proofs

/-! The RST event (70_reset_and_hazards, R240). -/

namespace Sys2Proof.Proofs

open Sys2Proof Sys2Proof.Machine

/-- R240 against the table of R36: RST reaches the reset record of the block's parameters, but for PAYLOAD and FRAME,
which it does not write, and for what is no state of the block (R241). -/
theorem applyReset_eq_resetWith (s : State) :
    s.applyReset = { State.resetWith s.par with
      bufs := { s.bufs with outpos := 0 }, freeIdx := s.freeIdx, inq := s.inq, rsp := s.rsp, tx := s.tx } := rfl

/-- Settles O53: the step on RST is `applyReset`, which is the reset record by `applyReset_eq_resetWith`. -/
theorem resetEventRestoresEveryRegister : Obligations.ResetEventRestoresEveryRegister := by
  intro s rest hinq
  have houtpos : (State.applyReset { s with inq := rest }).bufs.outpos = 0 := by rw [State.applyReset_bufs]
  exact ⟨_, step_of_rst hinq, applyReset_eq_resetWith { s with inq := rest }, houtpos⟩

end Sys2Proof.Proofs

/-! Decode and encode: command words and frame headers (30_encoding, R85 to R90). -/

namespace Sys2Proof.Proofs

open Sys2Proof Sys2Proof.Machine

/-! Frame headers, by kind. -/

/-- The header of a control frame, but for the one that is also the header of the priming frame. -/
theorem decodeFrameHeader_control {pid : BitVec 7} {zero : Bool} (h : ¬(pid = 1 ∧ zero = true)) :
    decodeFrameHeader hdrCtrl (pid.setWidth 8) 0 0 zero = .ok (.frameControl pid) := by
  have hsel : ¬(pid.setWidth 8 = 0x01#8 ∧ zero = true) := fun ⟨hp, hz⟩ =>
    h ⟨by simpa using congrArg (BitVec.setWidth 7) hp, hz⟩
  rw [decodeFrameHeader, if_neg (by decide), if_pos (by rfl), if_neg hsel, if_neg (by simp [sel_msb]),
    BitVec.setWidth_setWidth_of_le _ (by decide), BitVec.setWidth_eq]

/-- The bind flag keeps `SEL` apart from the one of the priming frame. -/
theorem decodeFrameHeader_bind (pid : BitVec 7) (zero : Bool) :
    decodeFrameHeader hdrCtrl (pid.setWidth 8 ||| bindFlag) 0 0 zero = .ok (.frameBind pid) := by
  have hsel : ¬(pid.setWidth 8 ||| bindFlag = 0x01#8 ∧ zero = true) := fun ⟨hp, _⟩ => by
    have hmsb := bindSel_msb pid
    rw [hp] at hmsb
    exact absurd hmsb (by decide)
  rw [decodeFrameHeader, if_neg (by decide), if_pos (by rfl), if_neg hsel, if_pos (bindSel_msb pid), bindSel_pid]

theorem decodeFrameHeader_priming : decodeFrameHeader hdrCtrl primeProto 0 0 true = .ok .framePriming := rfl

theorem decodeFrameHeader_failsafe (pid : BitVec 7) :
    decodeFrameHeader hdrFs (pid.setWidth 8) 0 0 true = .ok (.frameFailsafe pid) := by
  rw [decodeFrameHeader, if_neg (by decide), if_neg (by decide), if_pos ⟨rfl, sel_msb pid, rfl⟩,
    BitVec.setWidth_setWidth_of_le _ (by decide), BitVec.setWidth_eq]

/-! Decoding what was encoded. -/

theorem decode_of_decodeCommand {w : CmdWord} {i : Instr} (h : decodeCommand w = .ok i) : decode w = .ok i := by
  rw [decode, h]

/-- No header is a command word: its low header bits stand where a command has `rsv` (R97). -/
theorem decode_headerWord {b0 b1 : Byte} {i : Instr} (hrsv : b0.extractLsb' 0 4 ≠ 0)
    (h : decodeFrameHeader b0 b1 0 0 true = .ok i) : decode (headerWord b0 b1) = .ok i := by
  have hcmd : decodeCommand (headerWord b0 b1) = .error .reservedField := if_pos (by rwa [headerWord_rsv])
  rw [decode, hcmd, headerWord_byte0, headerWord_byte1, headerWord_byte2, headerWord_byte3, h]

/-- The command words of the encoder are legal. -/
theorem decodeCommand_encode {i : Instr} (hi : i.isCommand = true) (hw : WellFormed i = true) :
    decodeCommand (encode i) = .ok i := by
  cases i with
  | nop | send | loopon | loopoff | stop | status => rfl
  | setch | getch | selp =>
    simp [encode, decodeCommand, withoutData, cmdWord_op, cmdWord_rsv, cmdWord_arg8, cmdWord_data16]
  | start flags secs =>
    have hflags : startFlagsDefined flags = true := hw
    simp [encode, decodeCommand, decodeStart, cmdWord_op, cmdWord_rsv, cmdWord_arg8, cmdWord_data16, hflags]
  | frameControl | frameBind | framePriming | frameFailsafe => cases hi

theorem selByte_false (pid : BitVec 7) : selByte pid false = pid.setWidth 8 := BitVec.or_zero

/-- Settles O1: a command word by its fields, and a frame's header, which is no command word, by its kind. -/
theorem decodeOfEncode : Obligations.DecodeOfEncode := by
  refine ⟨fun i hw hne => ?_, decode_headerWord (by decide) decodeFrameHeader_priming⟩
  cases hi : i.isCommand with
  | true => exact decode_of_decodeCommand (decodeCommand_encode hi hw)
  | false =>
    cases i with
    | frameControl pid =>
      rw [encode, selByte_false]
      exact decode_headerWord (by decide) (decodeFrameHeader_control fun h => hne (by rw [h.1]))
    | frameBind pid => exact decode_headerWord (by decide) (decodeFrameHeader_bind pid true)
    | framePriming => exact decode_headerWord (by decide) decodeFrameHeader_priming
    | frameFailsafe pid =>
      rw [encode, selByte_false]
      exact decode_headerWord (by decide) (decodeFrameHeader_failsafe pid)
    | nop | setch | getch | selp | start | send | loopon | loopoff | stop | status => cases hi

/-! Encoding what was decoded. -/

theorem decodeStart_eq_ok {w : CmdWord} {i : Instr} (h : decodeStart w = .ok i) :
    i = .start (CmdWord.arg8 w) (CmdWord.data16 w) := by
  unfold decodeStart at h
  split at h <;> cases h
  rfl

/-- `SEL` put together from its two parts (R82). -/
theorem selByte_setWidth {b : Byte} {flag : Bool} (h : b.msb = flag) : selByte (b.setWidth 7) flag = b := by
  apply BitVec.eq_of_getLsbD_eq
  intro k hk
  rw [BitVec.msb_eq_getLsbD_last] at h
  subst h
  simp only [selByte]
  interval_cases k <;> cases b.getLsbD 7 <;> simp

theorem encode_of_decodeCommand {w : CmdWord} {i : Instr} (h : decodeCommand w = .ok i) : encode i = w := by
  obtain ⟨hrsv, -, harg, hdata, -⟩ := (decodeCommand_ok_iff w).mp ⟨i, h⟩
  have hfields (op : BitVec 4) (hop : (CmdWord.op w).toNat = op.toNat) :
      cmdWord op (CmdWord.arg8 w) (CmdWord.data16 w) = w := by
    rw [← BitVec.eq_of_toNat_eq hop, cmdWord_of_fields w hrsv]
  have hsub : [0, 5, 6, 7, 8, 9] ⊆ [0, 2, 3, 5, 6, 7, 8, 9] := by decide
  have hsub' : [2, 3] ⊆ [0, 2, 3, 5, 6, 7, 8, 9] := by decide
  have hbare (op : BitVec 4) (hop : (CmdWord.op w).toNat = op.toNat) (hused : op.toNat ∈ [0, 5, 6, 7, 8, 9]) :
      cmdWord op 0 0 = w := by
    rw [← hop] at hused
    have h := hfields op hop
    rwa [harg hused, hdata (hsub hused)] at h
  have hdataless (op : BitVec 4) (hop : (CmdWord.op w).toNat = op.toNat) (hused : op.toNat ∈ [2, 3]) :
      cmdWord op (CmdWord.arg8 w) 0 = w := by
    rw [← hop] at hused
    have h := hfields op hop
    rwa [hdata (hsub' hused)] at h
  rw [decodeCommand, if_neg (not_not.mpr hrsv)] at h
  split at h
  case h_1 hop | h_6 hop | h_7 hop | h_8 hop | h_9 hop | h_10 hop =>
    rw [withoutOperands_eq_ok h]
    exact hbare _ hop (by decide)
  case h_2 hop =>
    cases h
    exact hfields 1 hop
  case h_3 hop | h_4 hop =>
    rw [withoutData_eq_ok h]
    exact hdataless _ hop (by decide)
  case h_5 hop =>
    rw [decodeStart_eq_ok h]
    exact hfields 4 hop
  case h_11 => cases h

/-- A header that is read as a frame has its two reserved bytes 0, and the rest is in the frame's row. -/
theorem encode_of_decodeFrameHeader {b0 b1 b2 b3 : Byte} {zero : Bool} {i : Instr}
    (h : decodeFrameHeader b0 b1 b2 b3 zero = .ok i) :
    b2 = 0 ∧ b3 = 0 ∧ WellFormed i = true ∧ encode i = headerWord b0 b1 := by
  unfold decodeFrameHeader at h
  split at h
  · cases h
  next hrsv =>
    obtain ⟨hb2, hb3⟩ : b2 = 0 ∧ b3 = 0 := by simpa using hrsv
    refine ⟨hb2, hb3, ?_⟩
    split at h
    next hb0 =>
      subst hb0
      split at h
      next hprime =>
        cases h
        rw [hprime.1]
        exact ⟨rfl, rfl⟩
      · split at h
        next hmsb =>
          cases h
          exact ⟨rfl, congrArg (headerWord _) (selByte_setWidth hmsb)⟩
        next hmsb =>
          cases h
          exact ⟨rfl, congrArg (headerWord _) (selByte_setWidth (eq_false_of_ne_true hmsb))⟩
    · split at h
      next hfs =>
        obtain ⟨hb0, hmsb, -⟩ := hfs
        cases h
        rw [hb0]
        exact ⟨rfl, congrArg (headerWord _) (selByte_setWidth hmsb)⟩
      · cases h

/-- Settles O2: a word decodes as a command or as a header, and each decoder reads every bit of it. -/
theorem encodeOfDecode : Obligations.EncodeOfDecode := by
  intro w i h
  unfold decode at h
  split at h
  next hcmd =>
    cases h
    exact ⟨(isCommand_and_wellFormed_of_decodeCommand hcmd).2, encode_of_decodeCommand hcmd⟩
  · split at h
    next hheader =>
      cases h
      obtain ⟨hb2, hb3, hw, henc⟩ := encode_of_decodeFrameHeader hheader
      exact ⟨hw, henc.trans (headerWord_of_bytes w hb2 hb3)⟩
    · cases h

/-! Built frames. -/

/-- `decodeFrame` looks at the header and at whether the payload is all zero. -/
theorem decodeFrame_frameOf (hdr sel : Byte) (p : Payload) :
    decodeFrame (frameOf hdr sel p) = decodeFrameHeader hdr sel 0 0 (p.toList.all (· == 0)) := by
  rw [decodeFrame, frameOf_drop, frameOf_hdr, frameOf_sel, frameOf_rsv0, frameOf_rsv1]

theorem payload_all_zero_iff (p : Payload) :
    p.toList.all (· == 0) = true ↔ ∀ k, (h : k < 22) → p[k] = 0 := by
  simp

/-- Settles O6: each builder's header is read as its kind by the lemma for that kind. -/
theorem builtFramesFitTheirPattern : Obligations.BuiltFramesFitTheirPattern := by
  intro pid v
  refine ⟨fun h => ?_, fun h => ?_, (decodeFrame_frameOf _ _ _).trans (decodeFrameHeader_bind pid _),
    (decodeFrame_frameOf _ _ _).trans decodeFrameHeader_priming,
    (decodeFrame_frameOf _ _ _).trans (decodeFrameHeader_failsafe pid)⟩
  · rw [← payload_all_zero_iff] at h
    exact (decodeFrame_frameOf _ _ _).trans (decodeFrameHeader_control h)
  · rw [buildControl, decodeFrame_frameOf, (payload_all_zero_iff _).mpr h]
    rfl

/-! The rows of the command table. -/

/-- The per-row lemmas together: an encoding is in its row. -/
theorem row_matches_encode (i : Instr) (hw : WellFormed i = true) : i.row.Matches (encode i) := by
  cases i with
  | nop => exact Laws.EncodesInRow.nop hw
  | setch idx val => exact Laws.EncodesInRow.setch idx val hw
  | getch idx => exact Laws.EncodesInRow.getch idx hw
  | selp id => exact Laws.EncodesInRow.selp id hw
  | start flags secs => exact Laws.EncodesInRow.start flags secs hw
  | send => exact Laws.EncodesInRow.send hw
  | loopon => exact Laws.EncodesInRow.loopon hw
  | loopoff => exact Laws.EncodesInRow.loopoff hw
  | stop => exact Laws.EncodesInRow.stop hw
  | status => exact Laws.EncodesInRow.status hw
  | frameControl pid => exact Laws.EncodesInRow.frameControl pid hw
  | frameBind pid => exact Laws.EncodesInRow.frameBind pid hw
  | framePriming => exact Laws.EncodesInRow.framePriming hw
  | frameFailsafe pid => exact Laws.EncodesInRow.frameFailsafe pid hw

theorem row_mem_commandRows {i : Instr} (hi : i.isCommand = true) : i.row ∈ commandRows := by
  cases i with
  | nop | setch | getch | selp | start | send | loopon | loopoff | stop | status =>
    simp [commandRows, Instr.row]
  | frameControl | frameBind | framePriming | frameFailsafe => cases hi

/-- A row says of each field of a matching word what it says of the whole word. -/
theorem extractLsb'_of_matches {r : Row} {w : CmdWord} (h : r.Matches w) (start len : Nat) :
    w.extractLsb' start len &&& r.mask.extractLsb' start len = r.pattern.extractLsb' start len := by
  rw [← BitVec.extractLsb'_and, show w &&& r.mask = r.pattern from h]

/-- Every row of the command table fixes the operation code. -/
theorem op_of_matches {r : Row} {w : CmdWord} (hr : r ∈ commandRows) (h : r.Matches w) :
    CmdWord.op w = CmdWord.op r.pattern := by
  have hmask : ∀ r ∈ commandRows, r.mask.extractLsb' 28 4 = BitVec.allOnes 4 := by decide
  have hop := extractLsb'_of_matches h 28 4
  rwa [hmask r hr, BitVec.and_allOnes] at hop

theorem commandRows_disjoint :
    commandRows.Pairwise fun a b => ∀ w : CmdWord, ¬(a.Matches w ∧ b.Matches w) := by
  have hops : commandRows.Pairwise fun a b => CmdWord.op a.pattern ≠ CmdWord.op b.pattern := by decide
  exact hops.imp_of_mem fun ha hb hne w h => hne ((op_of_matches ha h.1).symm.trans (op_of_matches hb h.2))

/-- The row asks that the `len` bits from `start` on be 0. -/
abbrev AsksZero (r : Row) (start len : Nat) : Prop :=
  r.mask.extractLsb' start len = BitVec.allOnes len ∧ r.pattern.extractLsb' start len = 0

theorem extractLsb'_eq_zero {r : Row} {w : CmdWord} (h : r.Matches w) {start len : Nat} (hz : AsksZero r start len) :
    w.extractLsb' start len = 0 := by
  rw [← hz.2, ← extractLsb'_of_matches h, hz.1, BitVec.and_allOnes]

/-- The table of R89 asks for the zero fields of R90's list. -/
theorem commandRows_asksZero : ∀ r ∈ commandRows,
    AsksZero r 24 4 ∧ (CmdWord.op r.pattern).toNat < 10 ∧
      ((CmdWord.op r.pattern).toNat ∈ [0, 5, 6, 7, 8, 9] → AsksZero r 16 8) ∧
      ((CmdWord.op r.pattern).toNat ∈ [0, 2, 3, 5, 6, 7, 8, 9] → AsksZero r 0 16) ∧
      ((CmdWord.op r.pattern).toNat = 4 → AsksZero r 18 6) := by
  decide

theorem decodes_of_matches {r : Row} {w : CmdWord} (hr : r ∈ commandRows) (h : r.Matches w) :
    ∃ i, decodeCommand w = .ok i := by
  obtain ⟨hrsv, hop, harg, hdata, hflags⟩ := commandRows_asksZero r hr
  rw [decodeCommand_ok_iff, op_of_matches hr h]
  exact ⟨extractLsb'_eq_zero h hrsv, hop, fun hc => extractLsb'_eq_zero h (harg hc),
    fun hc => extractLsb'_eq_zero h (hdata hc), fun hc => extractLsb'_eq_zero h (hflags hc)⟩

theorem row_of_decodeCommand {w : CmdWord} {i : Instr} (h : decodeCommand w = .ok i) :
    i.row ∈ commandRows ∧ i.row.Matches w := by
  obtain ⟨hi, hw⟩ := isCommand_and_wellFormed_of_decodeCommand h
  exact ⟨row_mem_commandRows hi, encode_of_decodeCommand h ▸ row_matches_encode i hw⟩

/-- Settles O3: a word that decodes is the encoding of its instruction, which is in its row; a word of a row has the
fields that make it legal; and the rows differ in the operation code. -/
theorem commandWordMatchesExactlyOneRow : Obligations.CommandWordMatchesExactlyOneRow :=
  ⟨fun _ => ⟨fun ⟨_, h⟩ => ⟨_, row_of_decodeCommand h⟩, fun ⟨_, hr, h⟩ => decodes_of_matches hr h⟩,
    fun _ _ => row_of_decodeCommand, commandRows_disjoint⟩

/-- Settles O5: the command words and the headers are evaluated. -/
theorem writtenOutWordsDecode : Obligations.WrittenOutWordsDecode := by
  unfold Obligations.WrittenOutWordsDecode
  decide

end Sys2Proof.Proofs

/-! ENCODE: the scale's range, monotony and the codes it never gives (40_codec, R112 to R114). -/

namespace Sys2Proof.Proofs

open Sys2Proof Sys2Proof.Machine

theorem clampPulse_of_mem {p : Int} (hlow : 860 ≤ p) (hhigh : p ≤ 2140) : clampPulse p = p := by
  rw [clampPulse_eq_ite, if_neg (not_lt.mpr hlow), if_neg (not_lt.mpr hhigh)]

theorem clampPulse_le (p : Int) : clampPulse p ≤ 2140 := min_le_right _ _

theorem clampPulse_mono {p q : Int} (h : p ≤ q) : clampPulse p ≤ clampPulse q :=
  min_le_min_right _ (max_le_max_right _ h)

theorem scalePulse_mono {c d : Int} (h : c ≤ d) : scalePulse c ≤ scalePulse d := by
  have hc := scalePulse_le c
  have hd := lt_scalePulse_add_one d
  omega

/-- A step of 1 in the input is a step of 8/5 in the quotient. -/
theorem scalePulse_strictMono {c d : Int} (h : c < d) : scalePulse c < scalePulse d := by
  have hc := scalePulse_le c
  have hd := lt_scalePulse_add_one d
  omega

theorem encodeInt_of_le {p : Int} (h : p ≤ 860) : encodeInt p = 0 := by
  have hclamp : clampPulse p = 860 := le_antisymm (clampPulse_mono h) (le_clampPulse p)
  rw [encodeInt, hclamp]
  rfl

theorem encodeInt_of_ge {p : Int} (h : 2140 ≤ p) : encodeInt p = 2047 := by
  have hclamp : clampPulse p = 2140 := le_antisymm (clampPulse_le p) (clampPulse_mono h)
  rw [encodeInt, hclamp]
  rfl

theorem encodeInt_mono {p q : Int} (h : p ≤ q) : encodeInt p ≤ encodeInt q :=
  min_le_min_right _ (scalePulse_mono (clampPulse_mono h))

theorem encodeInt_of_mem {p : Int} (hlow : 860 ≤ p) (hhigh : p ≤ 2140) :
    encodeInt p = min (scalePulse p) 2047 := by
  rw [encodeInt, clampPulse_of_mem hlow hhigh]

/-- Inside the interval only the upper end meets the ceiling. -/
theorem encodeInt_strictMono {p q : Int} (hlow : 860 ≤ p) (h : p < q) (hhigh : q ≤ 2140) :
    encodeInt p < encodeInt q := by
  rw [encodeInt_of_mem hlow (h.le.trans hhigh), encodeInt_of_mem (hlow.trans h.le) hhigh]
  have hlt := scalePulse_strictMono h
  have hp := scalePulse_le p
  omega

/-- The scaled value in the interval (R112). -/
theorem scalePulse_range {c : Int} (hlow : 860 ≤ c) (hhigh : c ≤ 2140) :
    5 * scalePulse c ≤ 8 * (c - 860) ∧ 8 * (c - 860) < 5 * scalePulse c + 5 ∧
      0 ≤ scalePulse c ∧ scalePulse c ≤ 2048 ∧ 8 * (c - 860) ≤ 10240 ∧ 8 * (c - 860) % 5 = 3 * (c - 860) % 5 ∧
      (scalePulse c = 2048 ↔ c = 2140) := by
  have hle := scalePulse_le c
  have hlt := lt_scalePulse_add_one c
  omega

/-- Five inputs in a row give eight codes, of which the residues 2, 5 and 7 are left out; the ceiling gives 2047. -/
theorem exists_encodeInt_eq_iff (c : Int) :
    (∃ p, encodeInt p = c) ↔ 0 ≤ c ∧ c ≤ 2047 ∧ (c % 8 = 2 ∨ c % 8 = 5 ∨ c % 8 = 7 → c = 2047) := by
  constructor
  · rintro ⟨p, rfl⟩
    refine ⟨encodeInt_nonneg p, encodeInt_le p, ?_⟩
    rw [encodeInt_eq_ite]
    have hle := scalePulse_le (clampPulse p)
    have hlt := lt_scalePulse_add_one (clampPulse p)
    split <;> omega
  · rintro ⟨hlow, hhigh, hgap⟩
    by_cases hc : c = 2047
    · exact ⟨2140, by rw [hc]; rfl⟩
    · refine ⟨860 + (5 * c + 7) / 8, ?_⟩
      have hle := scalePulse_le (860 + (5 * c + 7) / 8)
      have hlt := lt_scalePulse_add_one (860 + (5 * c + 7) / 8)
      have hres : c % 8 = 0 ∨ c % 8 = 1 ∨ c % 8 = 3 ∨ c % 8 = 4 ∨ c % 8 = 6 := by omega
      have hscale : scalePulse (860 + (5 * c + 7) / 8) = c := by
        rcases hres with h | h | h | h | h <;> omega
      rw [encodeInt_of_mem (by omega) (by omega), hscale, min_eq_left hhigh]

/-- Settles O9: the clamp, the scale and the ceiling are each monotone, and the rest is the arithmetic of the quotient
by 5; the listed values are evaluated. -/
theorem encodeProperties : Obligations.EncodeProperties :=
  ⟨fun _ => scalePulse_range, fun _ h => encodeInt_of_le h.le, fun _ h => encodeInt_of_ge h.le, rfl, rfl,
    fun _ _ => encodeInt_mono, fun _ _ => encodeInt_strictMono, exists_encodeInt_eq_iff, by decide⟩

end Sys2Proof.Proofs

/-! PACK: its closed form, its fields and its accumulator (40_codec, R116 to R118 and R121). -/

namespace Sys2Proof.Proofs

open Sys2Proof Sys2Proof.Machine

/-! The closed form. -/

theorem pack_toNat (v : ChannelSet) (k : Nat) (h : k < 22) :
    (pack v)[k].toNat = packedNumber v / 2 ^ (8 * k) % 2 ^ 8 := by
  rw [← payloadNumber_pack, payloadNumber_div_mod _ k h]

theorem pack_eq_packClosed (v : ChannelSet) : pack v = packClosed v := by
  ext k h : 1
  apply BitVec.eq_of_toNat_eq
  rw [pack_toNat v k h, packClosed, Vector.getElem_ofFn, BitVec.toNat_ofNat]

/-- A bit of a payload byte is a bit of the packed number. -/
theorem pack_getLsbD (v : ChannelSet) {k j : Nat} (h : k < 22) (hj : j < 8) :
    (pack v)[k].getLsbD j = (packedNumber v).testBit (8 * k + j) := by
  rw [← payloadNumber_testBit _ k j h hj, payloadNumber_pack]

/-- Global bit `g` of the packed number is bit `g mod 11` of the code of channel `g / 11`. -/
theorem packedNumber_testBit_div_mod (v : ChannelSet) {g : Nat} (h : g < 176) :
    (packedNumber v).testBit g = (registerCode (v[g / 11]'(by omega))).getLsbD (g % 11) := by
  rw [← packedNumber_testBit v (g / 11) (g % 11) (by omega) (Nat.mod_lt _ (by decide)), Nat.div_add_mod]

/-- The code of channel `i`, and 0 past the last channel. -/
def codeAt (v : ChannelSet) (i : Nat) : Nat := if h : i < 16 then (registerCode v[i]).toNat else 0

theorem codeAt_testBit (v : ChannelSet) {i : Nat} (j : Nat) (h : i < 16) :
    (codeAt v i).testBit j = (registerCode v[i]).getLsbD j := by
  rw [codeAt, dif_pos h, BitVec.testBit_toNat]

theorem codeAt_lt (v : ChannelSet) (i : Nat) : codeAt v i < 2 ^ 11 := by
  unfold codeAt
  split
  · exact BitVec.isLt _
  · decide

/-- R117: a byte spans at most two codes, the one its first bit lies in and the next. -/
theorem pack_toNat_eq_codes (v : ChannelSet) (k : Nat) (h : k < 22) :
    (pack v)[k].toNat = ((codeAt v (8 * k / 11) >>> (8 * k - 11 * (8 * k / 11))) |||
      (codeAt v (8 * k / 11 + 1) <<< (11 * (8 * k / 11 + 1) - 8 * k))) % 2 ^ 8 := by
  apply Nat.eq_of_testBit_eq
  intro j
  rw [Nat.testBit_mod_two_pow, Nat.testBit_or, Nat.testBit_shiftRight, Nat.testBit_shiftLeft]
  by_cases hj : j < 8
  · rw [BitVec.testBit_toNat, pack_getLsbD v h hj, packedNumber_testBit_div_mod v (by omega)]
    by_cases hnext : 8 * k + j < 11 * (8 * k / 11 + 1)
    · have hchannel : (8 * k + j) / 11 = 8 * k / 11 := by omega
      have hplace : (8 * k + j) % 11 = 8 * k - 11 * (8 * k / 11) + j := by omega
      have hright : ¬11 * (8 * k / 11 + 1) - 8 * k ≤ j := by omega
      simp [codeAt_testBit v _ (show 8 * k / 11 < 16 by omega), hchannel, hplace, hright, hj]
    · have hchannel : (8 * k + j) / 11 = 8 * k / 11 + 1 := by omega
      have hplace : (8 * k + j) % 11 = j - (11 * (8 * k / 11 + 1) - 8 * k) := by omega
      have hleft : 11 * (8 * k / 11 + 1) - 8 * k ≤ j := by omega
      have hright : (codeAt v (8 * k / 11)).testBit (8 * k - 11 * (8 * k / 11) + j) = false :=
        Nat.testBit_lt_two_pow ((codeAt_lt v _).trans_le (Nat.pow_le_pow_right (by decide) (by omega)))
      simp [codeAt_testBit v _ (show 8 * k / 11 + 1 < 16 by omega), hchannel, hplace, hleft, hright, hj]
  · rw [Nat.testBit_lt_two_pow ((pack v)[k].isLt.trans_le (Nat.pow_le_pow_right (by decide) (not_lt.mp hj)))]
    simp [hj]

/-- Settles O10: the packed number is what the accumulator holds, and a byte is eight of its bits. -/
theorem packIsTheClosedForm : Obligations.PackIsTheClosedForm :=
  fun v => ⟨pack_eq_packClosed v, pack_toNat_eq_codes v⟩

/-! The fields. -/

theorem payloadBit_pack (v : ChannelSet) {g : Nat} (h : g < 176) :
    payloadBit (pack v) g = (registerCode (v[g / 11]'(by omega))).getLsbD (g % 11) := by
  have hk : g / 8 < 22 := by omega
  rw [payloadBit, Vector.getElem?_eq_getElem hk, Option.getD_some, pack_getLsbD v hk (Nat.mod_lt _ (by decide)),
    Nat.div_add_mod, packedNumber_testBit_div_mod v h]

/-- Settles O13: a payload bit is a bit of the code of its own channel, and the other channels are not written. -/
theorem packFieldsAreIsolated : Obligations.PackFieldsAreIsolated := by
  intro v i p g hg hne
  rw [payloadBit_pack _ hg, payloadBit_pack _ hg, Vector.getElem_set_ne _ _ hne.symm]

/-! The accumulator. -/

theorem packPrefix_nbits_lt (v : ChannelSet) (k : Nat) : (packPrefix v k).nbits.toNat < 8 :=
  foldl_channel_nbits_lt _ (by decide)

/-- After `k` channels the PACK holds `11 k` bits. -/
theorem packHolds_packPrefix (v : ChannelSet) {k : Nat} (h : k ≤ 16) : ∃ P, PackHolds (packPrefix v k) (11 * k) P := by
  have hlen : (v.toList.take k).length = k := by simpa using h
  have hholds := packHolds_start.foldl_channel (v.toList.take k) (by decide) (by omega)
  rw [hlen, Nat.zero_add] at hholds
  exact ⟨_, hholds⟩

/-- R118's three lists, as the quotients and remainders of the bits that came in. -/
theorem packSequences : ∀ k < 16,
    some (11 * k % 8 + 11) = [11, 14, 17, 12, 15, 18, 13, 16, 11, 14, 17, 12, 15, 18, 13, 16][k]? ∧
    some (11 * (k + 1) % 8) = [3, 6, 1, 4, 7, 2, 5, 0, 3, 6, 1, 4, 7, 2, 5, 0][k]? ∧
    some (11 * (k + 1) / 8) = [1, 2, 4, 5, 6, 8, 9, 11, 12, 13, 15, 16, 17, 19, 20, 22][k]? := by
  decide

/-- Settles O14: after each channel the bits are shared out between `OUTPOS` bytes and fewer than 8 buffered bits, which
fixes both numbers; the bounds of the accumulator are those of `PackHolds`. -/
theorem packAccumulatorBounds : Obligations.PackAccumulatorBounds := by
  intro v k hk r d
  obtain ⟨P, hP⟩ := packHolds_packPrefix v hk.le
  obtain ⟨Q, hQ⟩ := packHolds_packPrefix v (Nat.succ_le_of_lt hk)
  have hn := packPrefix_nbits_lt v k
  have hd : d.nbits.toNat < 8 := packPrefix_nbits_lt v (k + 1)
  have hpos := hP.pos_eq
  have hposd : 8 * d.outpos.toNat + d.nbits.toNat = 11 * (k + 1) := hQ.pos_eq
  have hrn : r.nbits.toNat = 11 * k % 8 + 11 := by rw [insert_nbits hn]; omega
  have hdn : d.nbits.toNat = 11 * (k + 1) % 8 := by omega
  have hdo : d.outpos.toNat = 11 * (k + 1) / 8 := by omega
  obtain ⟨hinserted, hdrained, hwritten⟩ := packSequences k hk
  exact ⟨hrn ▸ hinserted, hdn ▸ hdrained, hdo ▸ hwritten, (hP.insert hn _).acc_lt, hQ.acc_lt⟩

end Sys2Proof.Proofs

/-! Frames that are equal though built as different kinds (41_frame_builder, R133 and R136). -/

namespace Sys2Proof.Proofs

open Sys2Proof Sys2Proof.Machine

/-- Sixteen codes 0 pack to zero bytes. -/
theorem pack_eq_zeroPayload {v : ChannelSet} (h : ∀ i, (hi : i < 16) → registerCode v[i] = 0) :
    pack v = zeroPayload := by
  ext k hk j hj
  rw [← BitVec.getLsbD_eq_getElem, pack_getLsbD v hk hj, packedNumber_testBit_div_mod v (by omega), h _ (by omega)]
  simp [zeroPayload]

theorem registerCode_eq_zero {v : Pulse} (h : v.toInt ≤ 860) : registerCode v = 0 := by
  rw [registerCode, encodePulse, encodeInt_of_le h]
  rfl

/-- Settles O16: values up to 860 have code 0, so the payload is zero, and the headers are the same. -/
theorem primingIsControlOneWithAllChannelsLow : Obligations.PrimingIsControlOneWithAllChannelsLow := by
  intro v h
  rw [buildControl, pack_eq_zeroPayload fun i hi => registerCode_eq_zero (h i hi)]
  rfl

/-- Settles O17: the frames differ in one header byte, once the payload of codes 0 is zero. -/
theorem bindIsControlWithTheFlag : Obligations.BindIsControlWithTheFlag := by
  intro pid v
  refine ⟨rfl, fun h => ?_⟩
  rw [buildControl, pack_eq_zeroPayload h]
  rfl

end Sys2Proof.Proofs

/-! What a command of the CMD port can do (42_commands, R150 to R160). -/

namespace Sys2Proof.Proofs

open Sys2Proof Sys2Proof.Machine

/-- Every effect a command can have: it answers and changes nothing, whether it is performed or refused; or it is
performed, in a state that allows it, and answers OK. -/
inductive CommandEffect (s : State) : Instr → State → Prop
  | responds {i : Instr} (c : RspCode) (d : BitVec 16) : CommandEffect s i (s.respond c d)
  | setch {idx : BitVec 8} {val : Pulse} (hidx : idx.toNat < 16) :
      CommandEffect s (.setch idx val) (State.done { s with ch := s.ch.set idx.toNat val })
  | selp {id : BitVec 8} {p : BitVec 7} (hq : s.seq = .idle) (hp : p ∈ s.par.protoSet) (hid : p.toNat = id.toNat) :
      CommandEffect s (.selp id) (s.selectProtocol p).done
  | start {flags : BitVec 8} {secs : BitVec 16} (hq : s.seq = .idle) (hp : s.protoV = true) :
      CommandEffect s (.start flags secs) (s.loadSession flags secs).beginSession.done
  | send (hq : s.seq = .streaming) : CommandEffect s .send
      (State.done { s.emitControl with slotT := if s.loop = true then s.par.streamPeriodMs else s.slotT })
  | looponEmits (hq : s.seq = .streaming) (hloop : s.loop = false) : CommandEffect s .loopon
      (State.done { s.emitControl with loop := true, slotT := s.par.streamPeriodMs })
  | loopon (hq : s.seq ≠ .streaming) : CommandEffect s .loopon (State.done { s with loop := true })
  | loopoffStops (hq : s.seq = .streaming) : CommandEffect s .loopoff (State.done { s with loop := false, slotT := 0 })
  | loopoff (hq : s.seq ≠ .streaming) : CommandEffect s .loopoff (State.done { s with loop := false })
  | stop (hq : s.seq ≠ .fault) : CommandEffect s .stop s.stopSession

theorem chooseProtocol_effect (s : State) (id : BitVec 8) :
    CommandEffect s (.selp id) (s.chooseProtocol id) := by
  by_cases hidle : s.seq = .idle
  · by_cases hid : ∀ p ∈ s.par.protoSet, p.toNat ≠ id.toNat
    · rw [chooseProtocol_of_not_mem hidle hid]
      exact .responds _ _
    · push Not at hid
      obtain ⟨p, hp, hid⟩ := hid
      rw [chooseProtocol_of_mem hidle hp hid]
      exact .selp hidle hp hid
  · rw [State.chooseProtocol, if_pos hidle]
    exact .responds _ _

theorem turnLoopOn_effect (s : State) : CommandEffect s .loopon s.turnLoopOn := by
  unfold State.turnLoopOn
  split
  · exact .responds _ _
  next hloop =>
    split
    next hq => exact .looponEmits hq (eq_false_of_ne_true hloop)
    next hq => exact .loopon hq

theorem turnLoopOff_effect (s : State) : CommandEffect s .loopoff s.turnLoopOff := by
  unfold State.turnLoopOff
  split
  next hq => exact .loopoffStops hq
  next hq => exact .loopoff hq

theorem startSession_effect (s : State) (flags : BitVec 8) (secs : BitVec 16) :
    CommandEffect s (.start flags secs) (s.startSession flags secs) := by
  unfold State.startSession
  split
  · exact .responds _ _
  next hq =>
    split
    · exact .responds _ _
    next hp => exact .start (not_not.mp hq) (eq_true_of_ne_false hp)

/-- A command answers one of its effects. -/
theorem commandEffect_of_exec {s t : State} {i : Instr} (hi : i.isCommand = true) (hw : WellFormed i = true)
    (h : exec i s = .next t) : CommandEffect s i t := by
  by_cases hf : s.seq = .fault
  · obtain ⟨c, d, hcd⟩ := exec_of_fault hi hw hf
    cases h.symm.trans hcd
    exact .responds c d
  cases i with
  | nop | status =>
    cases h
    exact .responds _ _
  | getch idx =>
    rcases lt_or_ge idx.toNat 16 with hidx | hidx
    · cases h.symm.trans (congrArg Host.Outcome.next (readChannel_of_lt s hidx))
      exact .responds _ _
    · cases h.symm.trans (congrArg Host.Outcome.next (readChannel_of_le s hidx))
      exact .responds _ _
  | setch idx val =>
    cases h.symm.trans (exec_setch hf idx val)
    rcases lt_or_ge idx.toNat 16 with hidx | hidx
    · rw [writeChannel_of_lt s hidx]
      exact .setch hidx
    · rw [writeChannel_of_le s hidx]
      exact .responds _ _
  | selp id =>
    cases h.symm.trans (exec_selp hf id)
    exact chooseProtocol_effect s id
  | start flags secs =>
    cases h.symm.trans (exec_start hf secs hw)
    exact startSession_effect s flags secs
  | send =>
    cases h.symm.trans (exec_send hf)
    by_cases hq : s.seq = .streaming
    · rw [sendFrame_streaming hq]
      exact .send hq
    · rw [State.sendFrame, if_pos hq]
      exact .responds _ _
  | loopon =>
    cases h.symm.trans (exec_loopon hf)
    exact turnLoopOn_effect s
  | loopoff =>
    cases h.symm.trans (exec_loopoff hf)
    exact turnLoopOff_effect s
  | stop =>
    cases h.symm.trans (exec_stop hf)
    exact .stop hf
  | frameControl | frameBind | framePriming | frameFailsafe => cases hi

/-- Every step but waiting, by its event: `step_cases` with the effects of the commands. -/
inductive StepEffect (s : State) : Event → State → Prop
  | rst : StepEffect s .rst s.applyReset
  | txerr : StepEffect s .txerr s.takeTransportError
  | tick : StepEffect s .tick s.tick
  | illegal {w : CmdWord} (hd : ∀ i, decodeCommand w ≠ .ok i) : StepEffect s (.cmd w) (s.respond .illegalCmd 0)
  | command {w : CmdWord} {i : Instr} {t : State} (hd : decodeCommand w = .ok i) (h : CommandEffect s i t) :
      StepEffect s (.cmd w) t

/-- An event takes effect on the state without it. -/
theorem stepEffect_of_event {s t : State} {e : Event} {rest : List Event} (hinq : s.inq = e :: rest)
    (h : step s = .next t) : StepEffect { s with inq := rest } e t := by
  cases e with
  | rst =>
    cases h.symm.trans (step_of_rst hinq)
    exact .rst
  | txerr =>
    cases h.symm.trans (step_of_txerr hinq)
    exact .txerr
  | tick =>
    cases h.symm.trans (step_of_tick hinq)
    exact .tick
  | cmd w =>
    cases hd : decodeCommand w with
    | ok i =>
      obtain ⟨hi, hw⟩ := isCommand_and_wellFormed_of_decodeCommand hd
      exact .command hd (commandEffect_of_exec hi hw ((step_of_command hinq hd).symm.trans h))
    | error e =>
      cases h.symm.trans (step_of_illegal hinq hd)
      exact .illegal fun i hi => by rw [hd] at hi; cases hi

/-- A step waits, or takes the oldest event. -/
theorem step_waits_or_effect {s t : State} (h : step s = .next t) :
    t = s ∨ ∃ e rest, s.inq = e :: rest ∧ StepEffect { s with inq := rest } e t := by
  match hinq : s.inq with
  | [] =>
    cases h.symm.trans (step_of_none hinq)
    exact .inl rfl
  | e :: rest => exact .inr ⟨e, rest, rfl, stepEffect_of_event hinq h⟩

/-- The first slot of a session keeps what any slot action keeps. -/
theorem beginSession_keeps (s : State) : SlotKeeps s s.beginSession := by
  unfold State.beginSession
  split
  · have h := State.slotPriming_keeps { s with seq := .priming }
    exact { h with }
  · split
    · have h := State.slotFailsafe_keeps { s with seq := .failsafe }
      exact { h with }
    · exact s.enterStreaming_keeps

end Sys2Proof.Proofs

/-! The invariant of reachable states (10_state, R35). -/

namespace Sys2Proof.Proofs

open Sys2Proof Sys2Proof.Machine

/-! The slots of a session. -/

/-- What the invariant says of a session apart from the registers that its slots set. -/
structure SessionInv (s : State) : Prop where
  legal : s.par.Legal
  protoV : s.protoV = true
  protoLegal : s.proto ∈ s.par.protoSet
  terr : s.terr = false
  limitMax : s.bindLimit.toNat ≤ 65535000
  accZero : s.acc = 0
  nbitsZero : s.nbits = 0
  sent : ∀ f ∈ s.tx, BuiltFrame s.par f

theorem sessionInv_of_inv {s : State} (h : Inv s) (hq : s.seq.inSession = true) : SessionInv s where
  legal := h.legal
  protoV := h.sessionHasProto hq
  protoLegal := h.protoLegal (h.sessionHasProto hq)
  terr := eq_false_of_ne_true fun ht => ne_fault_of_inSession hq (h.terrIsFault.mp ht)
  limitMax := h.limitMax
  accZero := h.accZero
  nbitsZero := h.nbitsZero
  sent := h.sent

/-- What the invariant asks of a session that has just sent a frame, in each of the burst states and in STREAMING. -/
theorem inv_of_counted_burst {s : State} (h : SessionInv s) (hq : s.seq = .priming ∨ s.seq = .failsafe)
    (hcnt : 1 ≤ s.cnt.toNat ∧ s.cnt.toNat ≤ 10) (ht : s.slotT = gapMs) : Inv s where
  legal := h.legal
  timerRuns := by rcases hq with hq | hq <;> simp [hq, ht, SeqState.inBurst]
  timerMax := by simp [ht]
  timerLoop := by rcases hq with hq | hq <;> simp [hq]
  cntMax := hcnt.2
  cntIdle := by rcases hq with hq | hq <;> simp [hq]
  cntBurst := fun _ => hcnt.1
  sessionHasProto := fun _ => h.protoV
  protoLegal := fun _ => h.protoLegal
  protoNone := by simp [h.protoV]
  bindEnabled := by rcases hq with hq | hq <;> simp [hq]
  bindTime := by rcases hq with hq | hq <;> simp [hq]
  limitMax := h.limitMax
  terrIsFault := by rcases hq with hq | hq <;> simp [hq, h.terr]
  accZero := h.accZero
  nbitsZero := h.nbitsZero
  sent := h.sent

theorem inv_of_bind {s : State} (h : SessionInv s) (hq : s.seq = .bind) (hcnt : s.cnt = 0) (hen : s.bindEn = true)
    (htime : s.bindElapsed < s.bindLimit) (ht : s.slotT = gapMs) : Inv s where
  legal := h.legal
  timerRuns := by simp [hq, ht, SeqState.inBurst]
  timerMax := by simp [ht]
  timerLoop := by simp [hq]
  cntMax := by simp [hcnt]
  cntIdle := fun _ => hcnt
  cntBurst := by simp [hq]
  sessionHasProto := fun _ => h.protoV
  protoLegal := fun _ => h.protoLegal
  protoNone := by simp [h.protoV]
  bindEnabled := fun _ => hen
  bindTime := fun _ => by simpa [ht, BitVec.lt_def] using htime
  limitMax := h.limitMax
  terrIsFault := by simp [hq, h.terr]
  accZero := h.accZero
  nbitsZero := h.nbitsZero
  sent := h.sent

theorem inv_of_streaming {s : State} (h : SessionInv s) (hq : s.seq = .streaming) (hcnt : s.cnt = 0)
    (hmax : s.slotT.toNat ≤ s.par.streamPeriodMs.toNat) (ht : s.slotT ≠ 0 ↔ s.loop = true) : Inv s where
  legal := h.legal
  timerRuns := by simpa [hq, SeqState.inBurst] using ht
  timerMax := hmax.trans (le_max_right _ _)
  timerLoop := fun _ => hmax
  cntMax := by simp [hcnt]
  cntIdle := fun _ => hcnt
  cntBurst := by simp [hq]
  sessionHasProto := fun _ => h.protoV
  protoLegal := fun _ => h.protoLegal
  protoNone := by simp [h.protoV]
  bindEnabled := by simp [hq]
  bindTime := by simp [hq]
  limitMax := h.limitMax
  terrIsFault := by simp [hq, h.terr]
  accZero := h.accZero
  nbitsZero := h.nbitsZero
  sent := h.sent

/-! The emissions. -/

/-- A PACK ends with nothing buffered (R32). -/
theorem packRegs_nbits (v : ChannelSet) : (packRegs v).nbits = 0 := by
  have hn : (packRegs v).nbits.toNat < 8 := foldl_channel_nbits_lt v.toList (by decide)
  have hpos := (packHolds_packRegs v).pos_eq
  exact BitVec.eq_of_toNat_eq (by simp; omega)

theorem packRegs_acc (v : ChannelSet) : (packRegs v).acc = 0 := by
  have hacc := (packHolds_packRegs v).acc_lt
  rw [packRegs_nbits] at hacc
  exact BitVec.eq_of_toNat_eq (by simpa using hacc)

theorem built_append {par : Params} {fs : List Frame} {f : Frame} (hfs : ∀ g ∈ fs, BuiltFrame par g)
    (hf : BuiltFrame par f) : ∀ g ∈ fs ++ [f], BuiltFrame par g := by
  simpa [or_imp, forall_and] using ⟨hfs, hf⟩

theorem SessionInv.emitControl {s : State} (h : SessionInv s) : SessionInv s.emitControl :=
  { h with
    accZero := packRegs_acc s.ch
    nbitsZero := packRegs_nbits s.ch
    sent := built_append h.sent (.inr ⟨s.proto, h.protoLegal, .inr ⟨s.ch, .inl rfl⟩⟩) }

theorem SessionInv.emitBind {s : State} (h : SessionInv s) : SessionInv s.emitBind :=
  { h with
    accZero := packRegs_acc s.ch
    nbitsZero := packRegs_nbits s.ch
    sent := built_append h.sent (.inr ⟨s.proto, h.protoLegal, .inr ⟨s.ch, .inr rfl⟩⟩) }

theorem SessionInv.emitPriming {s : State} (h : SessionInv s) : SessionInv s.emitPriming :=
  { h with sent := built_append h.sent (.inl rfl) }

theorem SessionInv.emitFailsafe {s : State} (h : SessionInv s) : SessionInv s.emitFailsafe :=
  { h with sent := built_append h.sent (.inr ⟨s.proto, h.protoLegal, .inl rfl⟩) }

/-! The slot actions, from the last one of the chain to the first. -/

/-- R8 and R9 leave no period of 0 ms. -/
theorem period_ne_zero {par : Params} (h : par.Legal) : par.streamPeriodMs ≠ 0 := by
  obtain ⟨-, -, hpos, -⟩ := h
  rintro h0
  simp [h0] at hpos

theorem SessionInv.slotStreaming {s : State} (h : SessionInv s) (hq : s.seq = .streaming) (hcnt : s.cnt = 0) :
    Inv s.slotStreaming := by
  cases hloop : s.loop with
  | true =>
    rw [slotStreaming_of_loop hloop]
    exact inv_of_streaming { h.emitControl with } hq hcnt le_rfl (iff_of_true (period_ne_zero h.legal) hloop)
  | false =>
    rw [slotStreaming_of_not_loop hloop]
    exact inv_of_streaming { h with } hq hcnt (Nat.zero_le _) (by simp [hloop])

theorem SessionInv.enterStreaming {s : State} (h : SessionInv s) : Inv s.enterStreaming :=
  SessionInv.slotStreaming { h with } rfl rfl

/-- A burst frame is counted up to ten. -/
theorem cnt_add_one {c : BitVec 4} (h : c < burstN) : 1 ≤ (c + 1).toNat ∧ (c + 1).toNat ≤ 10 := by
  have hc : c.toNat < 10 := h
  simp
  omega

theorem SessionInv.slotFailsafe {s : State} (h : SessionInv s) (hq : s.seq = .failsafe) : Inv s.slotFailsafe := by
  unfold State.slotFailsafe
  split
  next hcnt => exact inv_of_counted_burst { h.emitFailsafe with } (.inr hq) (cnt_add_one hcnt) rfl
  next => exact h.enterStreaming

theorem SessionInv.slotBind {s : State} (h : SessionInv s) (hq : s.seq = .bind) (hcnt : s.cnt = 0)
    (hen : s.bindEn = true) : Inv s.slotBind := by
  unfold State.slotBind
  split
  next htime => exact inv_of_bind { h.emitBind with } hq hcnt hen htime rfl
  next => exact SessionInv.slotFailsafe { h with } rfl

theorem SessionInv.slotPriming {s : State} (h : SessionInv s) (hq : s.seq = .priming) : Inv s.slotPriming := by
  unfold State.slotPriming
  split
  next hcnt => exact inv_of_counted_burst { h.emitPriming with } (.inl hq) (cnt_add_one hcnt) rfl
  next =>
    split
    next hen => exact SessionInv.slotBind { h with } rfl rfl hen
    next =>
      split
      · exact SessionInv.slotFailsafe { h with } rfl
      · exact SessionInv.enterStreaming { h with }

theorem SessionInv.beginSession {s : State} (h : SessionInv s) : Inv s.beginSession := by
  unfold State.beginSession
  split
  · exact SessionInv.slotPriming { h with } rfl
  · split
    · exact SessionInv.slotFailsafe { h with } rfl
    · exact h.enterStreaming

/-! The events. -/

theorem applyReset_keeps_inv {s : State} (h : Inv s) : Inv s.applyReset where
  legal := h.legal
  timerRuns := by simp [SeqState.inBurst]
  timerMax := Nat.zero_le _
  timerLoop := fun _ => Nat.zero_le _
  cntMax := Nat.zero_le _
  cntIdle := fun _ => rfl
  cntBurst := by simp
  sessionHasProto := by simp [SeqState.inSession]
  protoLegal := by simp
  protoNone := fun _ => rfl
  bindEnabled := by simp
  bindTime := by simp
  limitMax := Nat.zero_le _
  terrIsFault := by simp
  accZero := rfl
  nbitsZero := rfl
  sent := h.sent

theorem takeTransportError_keeps_inv {s : State} (h : Inv s) : Inv s.takeTransportError :=
  { h with
    timerRuns := by simp [SeqState.inBurst]
    timerMax := Nat.zero_le _
    timerLoop := by simp
    cntIdle := by simp
    cntBurst := by simp
    sessionHasProto := by simp [SeqState.inSession]
    bindEnabled := by simp
    bindTime := by simp
    terrIsFault := by simp }

theorem slot_of_priming {s : State} (h : s.seq = .priming) : s.slot = s.slotPriming := by rw [State.slot, h]

theorem slot_of_bind {s : State} (h : s.seq = .bind) : s.slot = s.slotBind := by rw [State.slot, h]

theorem slot_of_failsafe {s : State} (h : s.seq = .failsafe) : s.slot = s.slotFailsafe := by rw [State.slot, h]

theorem slot_of_idle {s : State} (h : s.seq = .idle) : s.slot = s := by rw [State.slot, h]

theorem SessionInv.slot {s : State} (h : SessionInv s) (hseq : s.seq.inSession = true)
    (hcnt : s.seq = .bind ∨ s.seq = .streaming → s.cnt = 0) (hen : s.seq = .bind → s.bindEn = true) : Inv s.slot := by
  cases hq : s.seq with
  | idle | fault => rw [hq] at hseq; cases hseq
  | priming => exact slot_of_priming hq ▸ h.slotPriming hq
  | bind => exact slot_of_bind hq ▸ h.slotBind hq (hcnt (.inl hq)) (hen hq)
  | failsafe => exact slot_of_failsafe hq ▸ h.slotFailsafe hq
  | streaming => exact slot_of_streaming hq ▸ h.slotStreaming hq (hcnt (.inr hq))

/-- The slot timer runs only in a session. -/
theorem inSession_of_timer {s : State} (h : Inv s) (ht : s.slotT ≠ 0) : s.seq.inSession = true := by
  rcases h.timerRuns.mp ht with hq | ⟨hq, -⟩
  · cases hseq : s.seq <;> simp_all [SeqState.inBurst, SeqState.inSession]
  · rw [hq]
    rfl

/-- Before its last millisecond the slot timer goes down by one. -/
theorem slotT_sub_one {t : BitVec 7} (h0 : t ≠ 0) (h1 : t ≠ 1) : t - 1 ≠ 0 ∧ (t - 1).toNat + 1 = t.toNat := by
  have hpos : t.toNat ≠ 0 := fun h => h0 (BitVec.eq_of_toNat_eq h)
  have hone : t.toNat ≠ 1 := fun h => h1 (BitVec.eq_of_toNat_eq h)
  have hlt := t.isLt
  have hsub : (t - 1).toNat = t.toNat - 1 := by
    simp [BitVec.toNat_sub]
    omega
  refine ⟨fun h => ?_, by omega⟩
  rw [h] at hsub
  simp at hsub
  omega

/-- Below the bound of R26 the bind time does not saturate (R25). -/
theorem inv_elapsedAfterTick {s : State} (h : Inv s) (hq : s.seq = .bind) :
    s.elapsedAfterTick.toNat = s.bindElapsed.toNat + 1 := by
  have htime := h.bindTime hq
  have hlimit := h.limitMax
  rw [State.elapsedAfterTick_bind hq (by omega)]
  simp
  omega

theorem tick_keeps_inv {s : State} (h : Inv s) : Inv s.tick := by
  by_cases h0 : s.slotT = 0
  · have hq : s.seq ≠ .bind := fun hq => (h.timerRuns.mpr (.inl (by rw [hq]; rfl))) h0
    rw [State.tick_stopped h0, State.elapsedAfterTick_other hq]
    exact h
  by_cases h1 : s.slotT = 1
  · rw [State.tick_fires h1]
    have hseq := inSession_of_timer h h0
    exact SessionInv.slot { sessionInv_of_inv h hseq with } hseq (fun hq => h.cntIdle (.inr hq)) h.bindEnabled
  · rw [State.tick_counts h0 h1]
    obtain ⟨hne, hsub⟩ := slotT_sub_one h0 h1
    have hle : (s.slotT - 1).toNat ≤ s.slotT.toNat := by omega
    exact { h with
      timerRuns := (iff_of_true hne h0).trans h.timerRuns
      timerMax := hle.trans h.timerMax
      timerLoop := fun hq => hle.trans (h.timerLoop hq)
      bindTime := fun hq => by
        have htime := h.bindTime hq
        have helapsed := inv_elapsedAfterTick h hq
        show s.elapsedAfterTick.toNat + (s.slotT - 1).toNat < s.bindLimit.toNat + 50
        omega }

/-! The commands. -/

theorem respond_keeps_inv {s : State} (h : Inv s) (c : RspCode) (d : BitVec 16) : Inv (s.respond c d) :=
  { h with }

/-- A duration of 16 bits in seconds (R26). -/
theorem bindLimitOf_toNat (secs : BitVec 16) : (bindLimitOf secs).toNat = 1000 * secs.toNat := by
  have hlt := secs.isLt
  rw [bindLimitOf_eq_ofNat, BitVec.toNat_ofNat, Nat.mod_eq_of_lt (by omega), Nat.mul_comm]

theorem sessionInv_loadSession {s : State} (h : Inv s) (hq : s.seq = .idle) (hp : s.protoV = true)
    (flags : BitVec 8) (secs : BitVec 16) : SessionInv (s.loadSession flags secs) where
  legal := h.legal
  protoV := hp
  protoLegal := h.protoLegal hp
  terr := eq_false_of_ne_true fun ht => by have := h.terrIsFault.mp ht; simp [hq] at this
  limitMax := by
    have hlt := secs.isLt
    rw [State.loadSession_bindLimit, bindLimitOf_toNat]
    omega
  accZero := h.accZero
  nbitsZero := h.nbitsZero
  sent := h.sent

/-- In STREAMING a frame leaves, and SLOT_T and LOOP are set together. -/
theorem streaming_emission_keeps_inv {s : State} (h : Inv s) (hq : s.seq = .streaming) {t : BitVec 7} {loop : Bool}
    (hmax : t.toNat ≤ s.par.streamPeriodMs.toNat) (hrun : t ≠ 0 ↔ loop = true) :
    Inv { s.emitControl with loop := loop, slotT := t } :=
  inv_of_streaming { (sessionInv_of_inv h (by rw [hq]; rfl)).emitControl with } hq (h.cntIdle (.inr (.inr hq))) hmax
    hrun

theorem stopSession_keeps_inv {s : State} (h : Inv s) (hq : s.seq ≠ .fault) : Inv s.stopSession :=
  { h with
    timerRuns := by simp [State.stopSession, SeqState.inBurst]
    timerMax := Nat.zero_le _
    timerLoop := by simp [State.stopSession]
    cntMax := Nat.zero_le _
    cntIdle := fun _ => rfl
    cntBurst := by simp [State.stopSession]
    sessionHasProto := by simp [State.stopSession, SeqState.inSession]
    bindEnabled := by simp [State.stopSession]
    bindTime := by simp [State.stopSession]
    terrIsFault := by simpa [State.stopSession, hq] using h.terrIsFault }

theorem command_keeps_inv {s t : State} {i : Instr} (h : Inv s) (ht : CommandEffect s i t) : Inv t := by
  cases ht with
  | responds c d => exact respond_keeps_inv h c d
  | setch hidx => exact { h with }
  | selp hq hp hid => exact { h with protoLegal := fun _ => hp, protoNone := nofun, sessionHasProto := fun _ => rfl }
  | start hq hp => exact respond_keeps_inv (sessionInv_loadSession h hq hp _ _).beginSession _ _
  | send hq =>
    have hruns : s.slotT ≠ 0 ↔ s.loop = true := by simpa [hq, SeqState.inBurst] using h.timerRuns
    refine respond_keeps_inv (streaming_emission_keeps_inv h hq (loop := s.loop) ?_ ?_) .ok 0
    · split
      · exact le_rfl
      · exact h.timerLoop hq
    · split
      next hloop => exact iff_of_true (period_ne_zero h.legal) hloop
      next => exact hruns
  | looponEmits hq hloop =>
    exact respond_keeps_inv
      (streaming_emission_keeps_inv h hq le_rfl (iff_of_true (period_ne_zero h.legal) rfl)) .ok 0
  | loopon hq => exact { h with timerRuns := by simpa [hq] using h.timerRuns }
  | loopoffStops hq =>
    exact { h with
      timerRuns := by simp [hq, SeqState.inBurst]
      timerMax := Nat.zero_le _
      timerLoop := fun _ => Nat.zero_le _
      bindTime := by simp [hq] }
  | loopoff hq => exact { h with timerRuns := by simpa [hq] using h.timerRuns }
  | stop hq => exact stopSession_keeps_inv h hq

/-- Settles O59: one lemma per event, and one per effect of a command. -/
theorem stepKeepsTheInvariant : Obligations.StepKeepsTheInvariant := by
  intro s t h hstep
  obtain rfl | ⟨e, rest, -, heffect⟩ := step_waits_or_effect hstep
  · exact h
  · have h' : Inv { s with inq := rest } := { h with }
    cases heffect with
    | rst => exact applyReset_keeps_inv h'
    | txerr => exact takeTransportError_keeps_inv h'
    | tick => exact tick_keeps_inv h'
    | illegal => exact respond_keeps_inv h' _ _
    | command hd hcommand => exact command_keeps_inv h' hcommand

/-! Reset and the states reached from it. -/

/-- Settles O58: the reset record has every register that the invariant speaks of at 0, and no frame sent. -/
theorem resetHoldsTheInvariant : Obligations.ResetHoldsTheInvariant := fun p evs hp =>
  { legal := hp
    timerRuns := by simp [State.boot, State.resetWith, SeqState.inBurst]
    timerMax := Nat.zero_le _
    timerLoop := fun _ => Nat.zero_le _
    cntMax := Nat.zero_le _
    cntIdle := fun _ => rfl
    cntBurst := by simp [State.boot, State.resetWith]
    sessionHasProto := by simp [State.boot, State.resetWith, SeqState.inSession]
    protoLegal := by simp [State.boot, State.resetWith]
    protoNone := fun _ => rfl
    bindEnabled := by simp [State.boot, State.resetWith]
    bindTime := by simp [State.boot, State.resetWith]
    limitMax := Nat.zero_le _
    terrIsFault := by simp [State.boot, State.resetWith]
    accZero := rfl
    nbitsZero := rfl
    sent := nofun }

/-- The invariant holds along every run. -/
theorem run_keeps_inv {n : Nat} {s t : State} (h : Inv s) (hrun : Host.Core.run Sys2Proof.core n s = .next t) :
    Inv t := by
  induction n generalizing s with
  | zero => exact run_zero hrun ▸ h
  | succ n ih =>
    obtain ⟨u, hstep, hrun⟩ := run_succ hrun
    exact ih (stepKeepsTheInvariant s u h hstep) hrun

/-- Settles O60: the invariant holds of the reset state and along every run; the bounds are those of `bindTime`,
`limitMax` and the legal periods. -/
theorem everyReachableStateMeetsTheInvariants : Obligations.EveryReachableStateMeetsTheInvariants := by
  intro p evs n t hp hrun
  have h := run_keeps_inv (resetHoldsTheInvariant p evs hp) hrun
  obtain ⟨-, -, -, hperiod⟩ := h.legal
  refine ⟨h, fun hq => ?_, max_le (by decide) hperiod⟩
  have htime := h.bindTime hq
  have hlimit := h.limitMax
  omega

end Sys2Proof.Proofs

/-! The slot actions as updates of the state, and the slot TICKs of the burst states (43_sequencer, R185 to R188). -/

namespace Sys2Proof.Proofs

open Sys2Proof Sys2Proof.Machine

theorem not_lt_burstN {c : BitVec 4} (h : 10 ≤ c.toNat) : ¬c < burstN := not_lt.mpr h

theorem slotFailsafe_of_ge {s : State} (h : 10 ≤ s.cnt.toNat) : s.slotFailsafe = s.enterStreaming :=
  if_neg (not_lt_burstN h)

theorem slotBind_of_lt {s : State} (h : s.bindElapsed < s.bindLimit) :
    s.slotBind = { s.emitBind with slotT := gapMs } := if_pos h

/-- BIND hands over to the first failsafe-setup frame. -/
theorem slotBind_of_ge {s : State} (h : s.bindLimit ≤ s.bindElapsed) :
    s.slotBind = { s.emitFailsafe with seq := .failsafe, cnt := 1, slotT := gapMs } := by
  rw [State.slotBind, if_neg (BitVec.not_lt.mpr h), slotFailsafe_of_lt (show (0 : BitVec 4) < burstN by decide)]
  rfl

section
variable {s : State} (hcnt : 10 ≤ s.cnt.toNat)
include hcnt

theorem slotPriming_to_bind (hen : s.bindEn = true) (hlimit : 0 < s.bindLimit.toNat) :
    s.slotPriming = { s.emitBind with seq := .bind, cnt := 0, bindElapsed := 0, slotT := gapMs } := by
  rw [State.slotPriming, if_neg (not_lt_burstN hcnt), if_pos hen, slotBind_of_lt]
  · rfl
  · exact BitVec.lt_def.mpr hlimit

/-- A bind of duration 0 sends no bind frame (R191). -/
theorem slotPriming_through_bind (hen : s.bindEn = true) (hlimit : s.bindLimit = 0) :
    s.slotPriming = { s.emitFailsafe with seq := .failsafe, cnt := 1, bindElapsed := 0, slotT := gapMs } := by
  rw [State.slotPriming, if_neg (not_lt_burstN hcnt), if_pos hen, slotBind_of_ge]
  · rfl
  · exact BitVec.le_of_eq hlimit

theorem slotPriming_to_failsafe (hen : s.bindEn = false) (hfs : s.fsEn = true) :
    s.slotPriming = { s.emitFailsafe with seq := .failsafe, cnt := 1, slotT := gapMs } := by
  rw [State.slotPriming, if_neg (not_lt_burstN hcnt), if_neg (by simp [hen]), if_pos hfs,
    slotFailsafe_of_lt (show (0 : BitVec 4) < burstN by decide)]
  rfl

theorem slotPriming_to_streaming (hen : s.bindEn = false) (hfs : s.fsEn = false) :
    s.slotPriming = s.enterStreaming := by
  rw [State.slotPriming, if_neg (not_lt_burstN hcnt), if_neg (by simp [hen]), if_neg (by simp [hfs])]
  rfl

end

section
variable {s : State} (ht : s.slotT = 1)
include ht

/-- A slot TICK outside BIND is the slot action alone. -/
theorem tick_of_slot {q : SeqState} (hq : s.seq = q) (hne : q ≠ .bind) : s.tick = State.slot { s with slotT := 0 } := by
  rw [State.tick_fires ht, State.elapsedAfterTick_other (hq ▸ hne)]

theorem tick_of_priming (hq : s.seq = .priming) : s.tick = State.slotPriming { s with slotT := 0 } :=
  (tick_of_slot ht hq (by decide)).trans (slot_of_priming hq)

theorem tick_of_bind (hq : s.seq = .bind) :
    s.tick = State.slotBind { s with bindElapsed := s.elapsedAfterTick, slotT := 0 } :=
  (State.tick_fires ht).trans (slot_of_bind hq)

theorem tick_of_failsafe (hq : s.seq = .failsafe) : s.tick = State.slotFailsafe { s with slotT := 0 } :=
  (tick_of_slot ht hq (by decide)).trans (slot_of_failsafe hq)

theorem tick_of_streaming (hq : s.seq = .streaming) : s.tick = State.slotStreaming { s with slotT := 0 } :=
  (tick_of_slot ht hq (by decide)).trans (slot_of_streaming hq)

theorem tick_of_idle (hq : s.seq = .idle) : s.tick = { s with slotT := 0 } :=
  (tick_of_slot ht hq (by decide)).trans (slot_of_idle hq)

end

/-- An outcome that is known up to a slot action, up to the working registers. -/
theorem nextUpToWork_of_eq {o : Host.Outcome State Fault Refusal} {u v t : State} (ho : o = .next u) (huv : u = v)
    (hv : v = { t with acc := v.acc, nbits := v.nbits, bufs := v.bufs, freeIdx := v.freeIdx }) : NextUpToWork o t :=
  ⟨v, huv ▸ ho, hv⟩

/-- Settles O37: the branches of `slotPriming`, each the first action of the state reached. -/
theorem primingSlot : Obligations.PrimingSlot := by
  intro s rest hinq ht hq
  have hstep := (step_of_tick hinq).trans
    (congrArg Host.Outcome.next (tick_of_priming (s := { s with inq := rest }) ht hq))
  refine ⟨fun hcnt => ?_, fun hcnt hen hlimit => ?_, fun hcnt hen hlimit => ?_, fun hcnt hen hfs => ?_,
    fun hcnt hen hfs => ⟨fun hloop => ?_, fun hloop => ?_⟩⟩
  · exact nextUpToWork_of_eq hstep (slotPriming_of_lt hcnt) rfl
  · exact nextUpToWork_of_eq hstep (slotPriming_to_bind hcnt hen hlimit) rfl
  · exact nextUpToWork_of_eq hstep (slotPriming_through_bind hcnt hen hlimit) rfl
  · exact nextUpToWork_of_eq hstep (slotPriming_to_failsafe hcnt hen hfs) rfl
  · exact nextUpToWork_of_eq hstep
      ((slotPriming_to_streaming (s := { s with inq := rest, slotT := 0 }) hcnt hen hfs).trans
        (enterStreaming_of_loop hloop)) rfl
  · exact nextUpToWork_of_eq hstep
      ((slotPriming_to_streaming (s := { s with inq := rest, slotT := 0 }) hcnt hen hfs).trans
        (enterStreaming_of_not_loop hloop)) rfl

/-- Settles O38: the slot compares the bind time that already counts its own TICK. -/
theorem bindSlot : Obligations.BindSlot := by
  intro s rest hinq ht hq hmax
  have hstep := (step_of_tick hinq).trans
    (congrArg Host.Outcome.next (tick_of_bind (s := { s with inq := rest }) ht hq))
  rw [State.elapsedAfterTick_bind (s := { s with inq := rest }) hq hmax] at hstep
  have helapsed : (s.bindElapsed + 1).toNat = s.bindElapsed.toNat + 1 := by simp; omega
  refine ⟨fun hlt => ?_, fun hge => ?_⟩
  · exact nextUpToWork_of_eq hstep (slotBind_of_lt (BitVec.lt_def.mpr (helapsed.trans_lt hlt))) rfl
  · exact nextUpToWork_of_eq hstep (slotBind_of_ge (BitVec.le_def.mpr (hge.trans_eq helapsed.symm))) rfl

/-- Settles O39: the branches of `slotFailsafe`, and of `enterStreaming` by `LOOP`. -/
theorem failsafeSlot : Obligations.FailsafeSlot := by
  intro s rest hinq ht hq
  have hstep := (step_of_tick hinq).trans
    (congrArg Host.Outcome.next (tick_of_failsafe (s := { s with inq := rest }) ht hq))
  refine ⟨fun hcnt => ?_, fun hcnt hloop => ?_, fun hcnt hloop => ?_⟩
  · exact nextUpToWork_of_eq hstep (slotFailsafe_of_lt hcnt) rfl
  · exact nextUpToWork_of_eq hstep
      ((slotFailsafe_of_ge (s := { s with inq := rest, slotT := 0 }) hcnt).trans (enterStreaming_of_loop hloop)) rfl
  · exact nextUpToWork_of_eq hstep
      ((slotFailsafe_of_ge (s := { s with inq := rest, slotT := 0 }) hcnt).trans (enterStreaming_of_not_loop hloop)) rfl

end Sys2Proof.Proofs

/-! The transition graph (43_sequencer, R181). -/

namespace Sys2Proof.Proofs

open Sys2Proof Sys2Proof.Machine

/-! The state a slot action ends in. -/

theorem slotStreaming_seq (s : State) : s.slotStreaming.seq = s.seq := by
  unfold State.slotStreaming
  split <;> rfl

theorem enterStreaming_seq (s : State) : s.enterStreaming.seq = .streaming := slotStreaming_seq _

theorem slotFailsafe_seq (s : State) :
    s.slotFailsafe.seq = if s.cnt.toNat < 10 then s.seq else .streaming := by
  unfold State.slotFailsafe
  split
  next h => exact (if_pos h).symm
  next h => exact (enterStreaming_seq s).trans (if_neg h).symm

theorem slotBind_seq (s : State) :
    s.slotBind.seq = if s.bindElapsed < s.bindLimit then s.seq else .failsafe := by
  unfold State.slotBind
  split
  · rfl
  · exact slotFailsafe_seq _

theorem slotPriming_seq (s : State) :
    s.slotPriming.seq = if s.cnt.toNat < 10 then s.seq
      else if s.bindEn = true then (if 0 < s.bindLimit.toNat then .bind else .failsafe)
      else if s.fsEn = true then .failsafe else .streaming := by
  unfold State.slotPriming
  split
  next h => exact (if_pos h).symm
  next h =>
    rw [if_neg (show ¬s.cnt.toNat < 10 from h)]
    split
    · exact slotBind_seq _
    · split
      · exact slotFailsafe_seq _
      · exact enterStreaming_seq _

/-- START chooses the first state of the session by `PRIME_ALWAYS` and its flags. -/
theorem beginSession_seq (s : State) (flags : BitVec 8) (secs : BitVec 16) :
    (s.loadSession flags secs).beginSession.seq =
      if s.par.primeAlways = true ∨ flags.getLsbD 0 = true then .priming
      else if flags.getLsbD 1 = true then .failsafe else .streaming := by
  unfold State.beginSession
  show State.seq (if s.par.primeAlways = true ∨ flags.getLsbD 0 = true then _
    else if flags.getLsbD 1 = true then _ else _) = _
  split
  · exact slotPriming_seq _
  · split
    · exact slotFailsafe_seq _
    · exact enterStreaming_seq _

/-- A TICK that is no slot leaves SEQ. -/
theorem tick_seq_of_no_slot {s : State} (h : s.slotT ≠ 1) : s.tick.seq = s.seq := by
  by_cases h0 : s.slotT = 0
  · rw [State.tick_stopped h0]
  · rw [State.tick_counts h0 h]

/-- The slot in BIND compares as if the elapsed time did not saturate: no limit is above the saturation. -/
theorem elapsedAfterTick_lt_iff {s : State} (hq : s.seq = .bind) :
    s.elapsedAfterTick < s.bindLimit ↔ s.bindElapsed.toNat + 1 < s.bindLimit.toNat := by
  have hlimit := s.bindLimit.isLt
  have helapsed := s.bindElapsed.isLt
  rw [BitVec.lt_def]
  by_cases hsat : s.bindElapsed.toNat < 2 ^ 26 - 1
  · have hsum : (s.bindElapsed + 1).toNat = s.bindElapsed.toNat + 1 := by simp; omega
    rw [State.elapsedAfterTick_bind hq hsat, hsum]
  · have hstays : s.elapsedAfterTick = s.bindElapsed := if_neg fun h => hsat (BitVec.lt_def.mp h.2)
    rw [hstays]
    omega

section
variable {s : State} (ht : s.slotT = 1)
include ht

theorem tick_seq_of_priming (hq : s.seq = .priming) :
    s.tick.seq = if s.cnt.toNat < 10 then .priming
      else if s.bindEn = true then (if 0 < s.bindLimit.toNat then .bind else .failsafe)
      else if s.fsEn = true then .failsafe else .streaming := by
  rw [tick_of_priming ht hq, slotPriming_seq, hq]

theorem tick_seq_of_bind (hq : s.seq = .bind) :
    s.tick.seq = if s.bindElapsed.toNat + 1 < s.bindLimit.toNat then .bind else .failsafe := by
  rw [tick_of_bind ht hq, slotBind_seq, hq]
  simp only [elapsedAfterTick_lt_iff hq]

theorem tick_seq_of_failsafe (hq : s.seq = .failsafe) :
    s.tick.seq = if s.cnt.toNat < 10 then .failsafe else .streaming := by
  rw [tick_of_failsafe ht hq, slotFailsafe_seq, hq]

theorem tick_seq_of_streaming (hq : s.seq = .streaming) : s.tick.seq = .streaming := by
  rw [tick_of_streaming ht hq, slotStreaming_seq, hq]

end

/-- The block only counts in IDLE. -/
theorem tick_seq_of_idle {s : State} (hq : s.seq = .idle) : s.tick.seq = .idle := by
  by_cases ht : s.slotT = 1
  · rw [tick_of_idle ht hq, hq]
  · rw [tick_seq_of_no_slot ht, hq]

/-- The arrows that a TICK is the cause of are the changes of SEQ that it makes. -/
theorem arrowTo_tick_iff (s : State) (dst : SeqState) :
    ArrowTo s .tick dst ↔ dst = s.tick.seq ∧ dst ≠ s.seq := by
  by_cases ht : s.slotT = 1
  · cases hq : s.seq with
    | idle => simp [ArrowTo, hq, tick_seq_of_idle hq]
    | fault => simp [ArrowTo, hq, tick_of_fault hq]
    | streaming => simp [ArrowTo, hq, tick_seq_of_streaming ht hq]
    | failsafe =>
      rw [tick_seq_of_failsafe ht hq]
      split
      next hcnt => cases dst <;> simp [ArrowTo, hq, hcnt]
      next hcnt => cases dst <;> simp [ArrowTo, hq, ht, not_lt.mp hcnt]
    | bind =>
      rw [tick_seq_of_bind ht hq]
      split
      next hlt => cases dst <;> simp [ArrowTo, hq, hlt]
      next hlt => cases dst <;> simp [ArrowTo, hq, ht, not_lt.mp hlt]
    | priming =>
      have hlimit : s.bindLimit = 0#26 ↔ ¬0 < s.bindLimit.toNat := by
        rw [← BitVec.toNat_inj, not_lt, Nat.le_zero]
        rfl
      rw [tick_seq_of_priming ht hq]
      split
      next hcnt => cases dst <;> simp [ArrowTo, hq, hcnt]
      next hcnt =>
        have hcnt := not_lt.mp hcnt
        split
        next hen =>
          split
          next h0 => cases dst <;> simp [ArrowTo, hq, ht, hcnt, hen, hlimit, h0]
          next h0 => cases dst <;> simp [ArrowTo, hq, ht, hcnt, hen, hlimit, h0]
        next hen =>
          split
          next hfs => cases dst <;> simp [ArrowTo, hq, ht, hcnt, hen, hfs]
          next hfs => cases dst <;> simp [ArrowTo, hq, ht, hcnt, hen, hfs]
  · exact iff_of_false (fun h => ht h.1) fun h => h.2 (h.1.trans (tick_seq_of_no_slot ht))

theorem arrowTo_of_command {s t : State} {w : CmdWord} {i : Instr} (hd : decodeCommand w = .ok i)
    (h : CommandEffect s i t) (hne : t.seq ≠ s.seq) : ArrowTo s (.cmd w) t.seq := by
  cases h with
  | responds | setch | selp | send | looponEmits | loopon | loopoffStops | loopoff => exact absurd rfl hne
  | start hq hp =>
    refine .inr ⟨_, _, hd, hq, hp, ?_⟩
    rw [State.done_eq, State.respond_seq, beginSession_seq]
    split
    next hprime => exact .inl ⟨rfl, hprime⟩
    next hprime =>
      obtain ⟨hprime, hbind⟩ : s.par.primeAlways = false ∧ _ = false := by simpa using hprime
      split
      next hfs => exact .inr (.inl ⟨rfl, hprime, hbind, hfs⟩)
      next hfs => exact .inr (.inr ⟨rfl, hprime, hbind, eq_false_of_ne_true hfs⟩)
  | stop hq =>
    refine .inl ⟨hd, ?_, rfl⟩
    cases hseq : s.seq with
    | idle => exact absurd hseq.symm hne
    | fault => exact absurd hseq hq
    | priming | bind | failsafe | streaming => rfl

theorem exists_step_of_arrowTo_cmd {s : State} {w : CmdWord} {rest : List Event} {dst : SeqState}
    (hinq : s.inq = .cmd w :: rest) (h : ArrowTo s (.cmd w) dst) : ∃ t, step s = .next t ∧ t.seq = dst := by
  obtain ⟨hd, hq, rfl⟩ | ⟨flags, secs, hd, hq, hp, hdst⟩ := h
  · exact ⟨_, (step_of_command hinq hd).trans (exec_stop (ne_fault_of_inSession hq)), rfl⟩
  · have hw := (isCommand_and_wellFormed_of_decodeCommand hd).2
    refine ⟨_, (step_of_command hinq hd).trans (exec_start_accepted secs hw hq hp), ?_⟩
    rw [State.done_eq, State.respond_seq, beginSession_seq]
    obtain ⟨rfl, hprime⟩ | ⟨rfl, hprime, hbind, hfs⟩ | ⟨rfl, hprime, hbind, hfs⟩ := hdst
    · exact if_pos hprime
    · rw [if_neg (by rw [hprime, hbind]; decide), if_pos hfs]
    · rw [if_neg (by rw [hprime, hbind]; decide), if_neg (by rw [hfs]; decide)]

/-- Settles O41: the arrows of a TICK are its changes of SEQ, by `arrowTo_tick_iff`; a command changes SEQ only as START
or STOP. -/
theorem sequencerFollowsTheTransitionGraph : Obligations.SequencerFollowsTheTransitionGraph := by
  refine ⟨fun s t hstep hne => ?_, fun s e rest dst hinq h => ?_⟩
  · obtain rfl | ⟨e, rest, hinq, heffect⟩ := step_waits_or_effect hstep
    · exact absurd rfl hne
    refine ⟨e, rest, hinq, ?_⟩
    cases heffect with
    | rst => rfl
    | txerr => rfl
    | tick => exact (arrowTo_tick_iff { s with inq := rest } _).mpr ⟨rfl, hne⟩
    | illegal => exact absurd rfl hne
    | command hd hcommand => exact arrowTo_of_command (s := { s with inq := rest }) hd hcommand hne
  · cases e with
    | rst => exact ⟨_, step_of_rst hinq, Eq.symm h⟩
    | txerr => exact ⟨_, step_of_txerr hinq, Eq.symm h⟩
    | tick => exact ⟨_, step_of_tick hinq, ((arrowTo_tick_iff { s with inq := rest } dst).mp h).1.symm⟩
    | cmd w => exact exists_step_of_arrowTo_cmd hinq h

end Sys2Proof.Proofs

/-! The frames sent are those of the FRAME rows (log entry 6; 41_frame_builder, R138; 43_sequencer, section 2). -/

namespace Sys2Proof.Proofs

open Sys2Proof Sys2Proof.Machine

/-- What the FRAME row of `q` makes of `s`, run with `pid` = PROTO; in IDLE and FAULT there is none. -/
def emitIn (q : SeqState) (s : State) : State :=
  match q with
  | .priming => s.emitPriming
  | .bind => s.emitBind
  | .failsafe => s.emitFailsafe
  | .streaming => s.emitControl
  | .idle | .fault => s

theorem exec_frameRow {q : SeqState} (hq : q.inSession = true) (s : State) :
    ∃ i, q.frameRow s.proto = some i ∧ exec i s = .next (emitIn q s) := by
  cases q with
  | idle | fault => cases hq
  | priming | bind | failsafe | streaming => exact ⟨_, rfl, rfl⟩

/-- The rows do not look at the registers of the sequencer, and keep them. -/
theorem emitIn_with_slot_registers (q : SeqState) (s : State) (seq : SeqState) (c : BitVec 4) (t : BitVec 7)
    (e : BitVec 26) : emitIn q { s with seq := seq, cnt := c, slotT := t, bindElapsed := e } =
      { emitIn q s with seq := seq, cnt := c, slotT := t, bindElapsed := e } := by
  cases q <;> rfl

/-- `t` is in the state `q`, and is `s` after the row of `q` but for the registers that slots set. -/
structure RowRun (q : SeqState) (s t : State) : Prop where
  inSession : q.inSession = true
  seq : t.seq = q
  eq : t = { emitIn q s with seq := t.seq, cnt := t.cnt, slotT := t.slotT, bindElapsed := t.bindElapsed }

/-- A slot action runs the row of the state it ends in, or sends nothing where it ends in STREAMING with the loop off. -/
def RowRunOrSilent (s t : State) : Prop :=
  (∃ q, RowRun q s t) ∨ (t.seq = .streaming ∧ s.loop = false ∧ t.tx = s.tx)

theorem RowRunOrSilent.of_slot_registers {s t : State} {seq : SeqState} {c : BitVec 4} {x : BitVec 7} {e : BitVec 26}
    (h : RowRunOrSilent { s with seq := seq, cnt := c, slotT := x, bindElapsed := e } t) : RowRunOrSilent s t := by
  obtain ⟨q, hq, hseq, heq⟩ | hsilent := h
  · rw [emitIn_with_slot_registers] at heq
    exact .inl ⟨q, hq, hseq, heq⟩
  · exact .inr hsilent

theorem rowRunOrSilent_slotStreaming {s : State} (hq : s.seq = .streaming) : RowRunOrSilent s s.slotStreaming := by
  cases hloop : s.loop with
  | true =>
    rw [slotStreaming_of_loop hloop]
    exact .inl ⟨.streaming, rfl, hq, rfl⟩
  | false =>
    rw [slotStreaming_of_not_loop hloop]
    exact .inr ⟨hq, hloop, rfl⟩

theorem rowRunOrSilent_enterStreaming (s : State) : RowRunOrSilent s s.enterStreaming :=
  (rowRunOrSilent_slotStreaming rfl).of_slot_registers (s := s)

theorem rowRunOrSilent_slotFailsafe {s : State} (hq : s.seq = .failsafe) : RowRunOrSilent s s.slotFailsafe := by
  unfold State.slotFailsafe
  split
  · exact .inl ⟨.failsafe, rfl, hq, rfl⟩
  · exact rowRunOrSilent_enterStreaming s

theorem rowRunOrSilent_slotBind {s : State} (hq : s.seq = .bind) : RowRunOrSilent s s.slotBind := by
  unfold State.slotBind
  split
  · exact .inl ⟨.bind, rfl, hq, rfl⟩
  · exact (rowRunOrSilent_slotFailsafe rfl).of_slot_registers (s := s)

theorem rowRunOrSilent_slotPriming {s : State} (hq : s.seq = .priming) : RowRunOrSilent s s.slotPriming := by
  unfold State.slotPriming
  split
  · exact .inl ⟨.priming, rfl, hq, rfl⟩
  · split
    · exact (rowRunOrSilent_slotBind rfl).of_slot_registers (s := s)
    · split
      · exact (rowRunOrSilent_slotFailsafe rfl).of_slot_registers (s := s)
      · exact (rowRunOrSilent_enterStreaming _).of_slot_registers (s := s)

/-- The slot of a session. -/
theorem rowRunOrSilent_tick {s : State} (ht : s.slotT = 1) (hq : s.seq.inSession = true) :
    RowRunOrSilent s s.tick := by
  cases hseq : s.seq with
  | idle | fault => rw [hseq] at hq; cases hq
  | priming => exact tick_of_priming ht hseq ▸ (rowRunOrSilent_slotPriming hseq).of_slot_registers (s := s)
  | bind => exact tick_of_bind ht hseq ▸ (rowRunOrSilent_slotBind (by exact hseq)).of_slot_registers (s := s)
  | failsafe => exact tick_of_failsafe ht hseq ▸ (rowRunOrSilent_slotFailsafe hseq).of_slot_registers (s := s)
  | streaming => exact tick_of_streaming ht hseq ▸ (rowRunOrSilent_slotStreaming hseq).of_slot_registers (s := s)

/-! The first slot of a session (42_commands, R155). -/

section
variable {s : State} {flags : BitVec 8} (secs : BitVec 16)

theorem beginSession_of_priming (hprime : s.par.primeAlways = true ∨ flags.getLsbD 0 = true) :
    (s.loadSession flags secs).beginSession =
      { (s.loadSession flags secs).emitPriming with seq := .priming, cnt := 1, slotT := gapMs } :=
  (State.beginSession_priming (s := s.loadSession flags secs) hprime).trans
    (slotPriming_of_lt (show (0 : BitVec 4) < burstN by decide))

variable (hprime : ¬(s.par.primeAlways = true ∨ flags.getLsbD 0 = true))
include hprime

theorem beginSession_of_failsafe (hfs : flags.getLsbD 1 = true) :
    (s.loadSession flags secs).beginSession =
      { (s.loadSession flags secs).emitFailsafe with seq := .failsafe, cnt := 1, slotT := gapMs } :=
  (State.beginSession_failsafe (s := s.loadSession flags secs) hprime hfs).trans
    (slotFailsafe_of_lt (show (0 : BitVec 4) < burstN by decide))

theorem beginSession_of_streaming (hfs : flags.getLsbD 1 = false) :
    (s.loadSession flags secs).beginSession = (s.loadSession flags secs).enterStreaming :=
  State.beginSession_streaming (s := s.loadSession flags secs) hprime hfs

end

/-- An accepted START, as the row of the state it reaches and the registers of the session, of which the bind time is
still 0; or silent, in STREAMING with the loop off. -/
theorem beginSession_row {s t : State} {flags : BitVec 8} {secs : BitVec 16}
    (ht : (s.loadSession flags secs).beginSession = t) :
    (∃ q, q.inSession = true ∧ t.seq = q ∧
      t = { emitIn q s with seq := t.seq, cnt := t.cnt, slotT := t.slotT, bindElapsed := 0, bindEn := t.bindEn,
                            fsEn := t.fsEn, bindLimit := t.bindLimit }) ∨
      (t.seq = .streaming ∧ s.loop = false ∧ t.tx = s.tx) := by
  by_cases hprime : s.par.primeAlways = true ∨ flags.getLsbD 0 = true
  · rw [beginSession_of_priming secs hprime] at ht
    subst ht
    exact .inl ⟨.priming, rfl, rfl, rfl⟩
  cases hfs : flags.getLsbD 1 with
  | true =>
    rw [beginSession_of_failsafe secs hprime hfs] at ht
    subst ht
    exact .inl ⟨.failsafe, rfl, rfl, rfl⟩
  | false =>
    rw [beginSession_of_streaming secs hprime hfs] at ht
    cases hloop : s.loop with
    | true =>
      rw [enterStreaming_of_loop (s := s.loadSession flags secs) hloop] at ht
      subst ht
      exact .inl ⟨.streaming, rfl, rfl, rfl⟩
    | false =>
      rw [enterStreaming_of_not_loop (s := s.loadSession flags secs) hloop] at ht
      subst ht
      exact .inr ⟨rfl, rfl, rfl⟩

/-! The frame of any step. -/

theorem tick_tx_of_no_slot {s : State} (ht : s.slotT ≠ 1) : s.tick.tx = s.tx := by
  by_cases h0 : s.slotT = 0
  · rw [State.tick_stopped h0]
  · rw [State.tick_counts h0 ht]

/-- In IDLE and FAULT even a slot sends nothing (R184, R195). -/
theorem tick_tx_of_not_inSession {s : State} (hq : s.seq.inSession = false) : s.tick.tx = s.tx := by
  cases hseq : s.seq with
  | idle =>
    by_cases ht : s.slotT = 1
    · rw [tick_of_idle ht hseq]
    · exact tick_tx_of_no_slot ht
  | fault => rw [tick_of_fault hseq]
  | priming | bind | failsafe | streaming => rw [hseq] at hq; cases hq

/-- A frame that leaves is that of the row of the state reached. -/
theorem row_of_sent {s t : State} {e : Event} (h : StepEffect s e t) (hsent : t.tx ≠ s.tx) :
    ∃ q, q.inSession = true ∧ t.seq = q ∧ t.tx = (emitIn q s).tx := by
  cases h with
  | rst | txerr | illegal => exact absurd rfl hsent
  | tick =>
    have ht : s.slotT = 1 := by_contra fun ht => hsent (tick_tx_of_no_slot ht)
    have hq : s.seq.inSession = true := eq_true_of_ne_false fun hq => hsent (tick_tx_of_not_inSession hq)
    obtain ⟨q, hsession, hseq, heq⟩ | ⟨-, -, hsilent⟩ := rowRunOrSilent_tick ht hq
    · exact ⟨q, hsession, hseq, (congrArg State.tx heq :)⟩
    · exact absurd hsilent hsent
  | command _ h =>
    cases h with
    | responds | setch | selp | loopon | loopoffStops | loopoff | stop => exact absurd rfl hsent
    | send hq => exact ⟨.streaming, rfl, hq, rfl⟩
    | looponEmits hq => exact ⟨.streaming, rfl, hq, rfl⟩
    | start =>
      obtain ⟨q, hsession, hseq, heq⟩ | ⟨-, -, hsilent⟩ := beginSession_row rfl
      · exact ⟨q, hsession, hseq, (congrArg State.tx heq :)⟩
      · exact absurd hsilent hsent

/-- Settles O20: every frame by `row_of_sent`; the slots and START by the row they run; SEND and LOOPON, and the slots
that stay in their state, by their equations. -/
theorem slotsRunTheFrameRows : Obligations.SlotsRunTheFrameRows := by
  refine ⟨fun s t hstep hsent => ?_, fun s ht hq hloud => ?_, fun s t flags secs hw hq hp hexec hloud => ?_,
    fun s hq => ⟨_, rfl, ?_, fun hloop => ?_⟩,
    fun s ht => ⟨fun hq hloop => ?_, fun hq hcnt => ?_, fun hq hcnt => ?_, fun hq hlt => ?_⟩⟩
  · obtain rfl | ⟨e, rest, -, heffect⟩ := step_waits_or_effect hstep
    · exact absurd rfl hsent
    obtain ⟨q, hq, rfl, htx⟩ := row_of_sent heffect hsent
    obtain ⟨i, hi, hrow⟩ := exec_frameRow hq s
    refine ⟨i, _, hi, hrow, htx.trans ?_⟩
    cases t.seq <;> rfl
  · obtain ⟨q, hsession, hseq, heq⟩ | ⟨hseq, hloop, -⟩ := rowRunOrSilent_tick ht hq
    · obtain ⟨i, hi, hrow⟩ := exec_frameRow hsession s
      exact ⟨i, _, hseq ▸ hi, hrow, heq⟩
    · rcases hloud with hloud | hloud
      · exact absurd hseq hloud
      · rw [hloop] at hloud
        cases hloud
  · cases hexec.symm.trans (exec_start_accepted secs hw hq hp)
    obtain ⟨q, hsession, hseq, heq⟩ | ⟨hseq, hloop, -⟩ := beginSession_row (s := s) (flags := flags) (secs := secs) rfl
    · obtain ⟨i, hi, hrow⟩ := exec_frameRow hsession s
      exact ⟨i, _, hseq ▸ hi, hrow,
        congrArg (fun b : State => { b with rsp := (s.loadSession flags secs).beginSession.done.rsp }) heq⟩
    · rcases hloud with hloud | hloud
      · exact absurd hseq hloud
      · rw [hloop] at hloud
        cases hloud
  · rw [exec_send (by simp [hq]), sendFrame_streaming hq]
    rfl
  · rw [exec_loopon (by simp [hq]), State.turnLoopOn, if_neg (by simp [hloop]), if_pos hq]
    rfl
  · exact ⟨_, rfl, (tick_of_streaming ht hq).trans (slotStreaming_of_loop hloop)⟩
  · exact ⟨_, rfl, (tick_of_priming ht hq).trans (slotPriming_of_lt hcnt)⟩
  · exact ⟨_, rfl, (tick_of_failsafe ht hq).trans (slotFailsafe_of_lt hcnt)⟩
  · have hmax : s.bindElapsed.toNat < 2 ^ 26 - 1 := by have := s.bindLimit.isLt; omega
    refine ⟨_, rfl, (tick_of_bind ht hq).trans ((slotBind_of_lt ((elapsedAfterTick_lt_iff hq).mpr hlt)).trans ?_)⟩
    rw [State.elapsedAfterTick_bind hq hmax]
    rfl

end Sys2Proof.Proofs

/-! One step: its outputs and the registers that only some events write (00_scope, R12; 10_state, R21 and R27;
43_sequencer, R183 and R195). -/

namespace Sys2Proof.Proofs

open Sys2Proof Sys2Proof.Machine

/-- Settles O19: each row is its builder and the hand-over, which write the frame and the working registers only. -/
theorem frameRowsHandOverTheirFrame : Obligations.FrameRowsHandOverTheirFrame :=
  fun _ _ => ⟨⟨_, rfl, rfl⟩, ⟨_, rfl, rfl⟩, ⟨_, rfl, rfl⟩, ⟨_, rfl, rfl⟩⟩

/-- Settles O21: the step by `step_of_command`; the decoder gives only well-formed commands. -/
theorem stepRunsTheDecodedCommand : Obligations.StepRunsTheDecodedCommand := by
  intro s w rest i hinq hd
  obtain ⟨hi, hw⟩ := isCommand_and_wellFormed_of_decodeCommand hd
  exact ⟨hw, hi, step_of_command hinq hd⟩

theorem elapsedAfterTick_eq_ite (s : State) : s.elapsedAfterTick =
    if s.seq = .bind ∧ s.bindElapsed.toNat < 2 ^ 26 - 1 then s.bindElapsed + 1 else s.bindElapsed := rfl

/-- Settles O36: the slot timer is stopped or counts, and the bind time is `elapsedAfterTick`. -/
theorem tickCountsBetweenSlots : Obligations.TickCountsBetweenSlots := by
  intro s rest hinq ht
  rw [step_of_tick hinq, ← elapsedAfterTick_eq_ite]
  split
  next h0 =>
    rw [State.tick_stopped (s := { s with inq := rest }) h0, ← h0]
    rfl
  next h0 =>
    rw [State.tick_counts (s := { s with inq := rest }) h0 ht]
    rfl

theorem step_answers (s : State) : ∃ t, step s = .next t := by
  match hinq : s.inq with
  | [] => exact ⟨s, step_of_none hinq⟩
  | .rst :: rest => exact ⟨_, step_of_rst hinq⟩
  | .txerr :: rest => exact ⟨_, step_of_txerr hinq⟩
  | .tick :: rest => exact ⟨_, step_of_tick hinq⟩
  | .cmd w :: rest =>
    cases hd : decodeCommand w with
    | ok i =>
      obtain ⟨t, ht⟩ := exec_answers i { s with inq := rest }
      exact ⟨t, (step_of_command hinq hd).trans ht⟩
    | error e => exact ⟨_, step_of_illegal hinq hd⟩

/-- Settles O54: the invariant says that in FAULT the registers TXERR writes hold their values already. -/
theorem stepAlwaysAnswersANextState : Obligations.StepAlwaysAnswersANextState := by
  refine ⟨step_answers, fun s hinq => step_of_none hinq, fun s rest h hq hinq => ?_⟩
  have ht : s.slotT = 0 := not_ne_iff.mp (mt h.timerRuns.mp (by simp [hq, SeqState.inBurst]))
  rw [step_of_txerr hinq, State.takeTransportError, ← hq, ← h.terrIsFault.mpr hq, ← ht]

/-! Outputs. -/

theorem SlotKeeps.tx_append {s t : State} (h : SlotKeeps s t) : t.tx = s.tx ∨ ∃ f, t.tx = s.tx ++ [f] := by
  obtain h | h | h | h | h := h.tx
  · exact .inl h
  all_goals exact .inr ⟨_, h⟩

theorem command_outputs {s t : State} {i : Instr} (h : CommandEffect s i t) :
    t.inq = s.inq ∧ t.par = s.par ∧ (t.tx = s.tx ∨ ∃ f, t.tx = s.tx ++ [f]) ∧ ∃ r, t.rsp = s.rsp ++ [r] := by
  cases h with
  | responds | setch | selp | loopon | loopoffStops | loopoff | stop => exact ⟨rfl, rfl, .inl rfl, _, rfl⟩
  | send | looponEmits => exact ⟨rfl, rfl, .inr ⟨_, rfl⟩, _, rfl⟩
  | @start flags secs =>
    have h := beginSession_keeps (s.loadSession flags secs)
    exact ⟨h.inq, h.par, (SlotKeeps.tx_append h :), _, congrArg (· ++ _) h.rsp⟩

/-- Settles O55: RST and TXERR write no stream, a TICK is a slot at most, and a command responds once. -/
theorem outputsOfOneEvent : Obligations.OutputsOfOneEvent := by
  intro s t e rest hinq hstep
  cases stepEffect_of_event hinq hstep with
  | rst | txerr => exact ⟨rfl, rfl, .inl rfl, nofun, fun _ => rfl⟩
  | tick =>
    have h := State.tick_keeps { s with inq := rest }
    exact ⟨h.inq, h.par, (SlotKeeps.tx_append h :), nofun, fun _ => h.rsp⟩
  | illegal => exact ⟨rfl, rfl, .inl rfl, fun _ => ⟨_, rfl⟩, fun h => absurd rfl (h _)⟩
  | command _ h =>
    obtain ⟨hinq, hpar, htx, hrsp⟩ := command_outputs h
    exact ⟨hinq, hpar, htx, fun _ => hrsp, fun h => absurd rfl (h _)⟩

/-! The registers of the session's owner. -/

/-- Settles O56: of the events only RST writes the channel registers, of the commands only SETCH. -/
theorem onlySetchAndResetWriteChannels : Obligations.OnlySetchAndResetWriteChannels := by
  intro s t hstep hne
  obtain rfl | ⟨e, rest, hinq, heffect⟩ := step_waits_or_effect hstep
  · exact absurd rfl hne
  refine ⟨rest, ?_⟩
  cases heffect with
  | rst => exact .inl hinq
  | txerr | illegal => exact absurd rfl hne
  | tick => exact absurd (State.tick_keeps _).ch hne
  | command hd h =>
    cases h with
    | responds | selp | send | looponEmits | loopon | loopoffStops | loopoff | stop => exact absurd rfl hne
    | start => exact absurd (beginSession_keeps _).ch hne
    | setch hidx => exact .inr ⟨_, _, _, hinq, hd, hidx, rfl⟩

/-- Settles O57: of the events only RST writes PROTO and PROTO_V, of the commands only SELP. -/
theorem protocolIsImmutableInASession : Obligations.ProtocolIsImmutableInASession := by
  intro s t hstep hne
  obtain rfl | ⟨e, rest, hinq, heffect⟩ := step_waits_or_effect hstep
  · exact absurd hne (by simp)
  refine ⟨rest, ?_⟩
  have hkept (hp : t.proto = s.proto) (hv : t.protoV = s.protoV) : False := hne.elim (· hp) (· hv)
  cases heffect with
  | rst => exact .inl hinq
  | txerr | illegal => exact (hkept rfl rfl).elim
  | tick =>
    have h := State.tick_keeps { s with inq := rest }
    exact (hkept h.proto h.protoV).elim
  | command hd h =>
    cases h with
    | responds | setch | send | looponEmits | loopon | loopoffStops | loopoff | stop => exact (hkept rfl rfl).elim
    | @start flags secs =>
      have h := beginSession_keeps (State.loadSession { s with inq := rest } flags secs)
      exact (hkept h.proto h.protoV).elim
    | selp hq hp hid => exact .inr ⟨hq, rfl, hp, _, _, hinq, hd, hid.symm⟩

/-! Where no frame is sent. -/

/-- Settles O47: a frame of a command needs IDLE or STREAMING. -/
theorem noCommandEmitsDuringABurst : Obligations.NoCommandEmitsDuringABurst := by
  intro s hq
  refine ⟨exec_stateError rfl (ne_fault_of_idle_or_inBurst (.inr hq))
    (beq_eq_false_iff_ne.mpr (ne_streaming_of_idle_or_inBurst (.inr hq))), fun t w rest hinq hstep => ?_⟩
  have hstreaming := ne_streaming_of_idle_or_inBurst (.inr hq)
  cases stepEffect_of_event hinq hstep with
  | illegal => rfl
  | command _ h =>
    cases h with
    | responds | setch | selp | loopon | loopoffStops | loopoff | stop => rfl
    | send hseq | looponEmits hseq => exact absurd hseq hstreaming
    | start hseq => rw [show s.seq = .idle from hseq] at hq; cases hq

/-- Settles O48: a TICK sends nothing outside a session, and of the commands only START does. -/
theorem nothingIsSentInIdleOrFault : Obligations.NothingIsSentInIdleOrFault := by
  intro s t hq hstep hsent
  obtain rfl | ⟨e, rest, hinq, heffect⟩ := step_waits_or_effect hstep
  · exact absurd rfl hsent
  cases heffect with
  | rst | txerr | illegal => exact absurd rfl hsent
  | tick => exact absurd (tick_tx_of_not_inSession (s := { s with inq := rest }) hq) hsent
  | command hd h =>
    cases h with
    | responds | setch | selp | loopon | loopoffStops | loopoff | stop => exact absurd rfl hsent
    | send hseq | looponEmits hseq => rw [show s.seq = .streaming from hseq] at hq; cases hq
    | start hseq hp => exact ⟨hseq, hp, _, rest, _, _, hinq, hd⟩

end Sys2Proof.Proofs

/-! Commands one after another (20_memory, R66 and R67), and events of one cycle (60_exceptions, R218). -/

namespace Sys2Proof.Proofs

open Sys2Proof Sys2Proof.Machine

/-- Settles O25: SETCH writes the register that GETCH then reads, without a clamp between them. -/
theorem getchAfterSetch : Obligations.GetchAfterSetch := by
  intro s t idx j val hq hidx hj hexec
  cases hexec.symm.trans (exec_setch hq idx val)
  rw [writeChannel_of_lt s hidx]
  refine congrArg Host.Outcome.next ((readChannel_of_lt _ hj).trans ?_)
  have hsame : idx.toNat = j.toNat ↔ j = idx := by rw [BitVec.toNat_inj, eq_comm]
  simp only [Vector.getElem_set, hsame]
  rfl

theorem sendFrame_tx {s : State} (hq : s.seq = .streaming) :
    s.sendFrame.tx = s.tx ++ [buildControl s.proto s.ch] := by
  rw [sendFrame_streaming hq]
  rfl

/-- Settles O35: SEND builds its frame from the registers as SETCH left them. -/
theorem sendAfterSetchCarriesTheNewValue : Obligations.SendAfterSetchCarriesTheNewValue := by
  intro s t u idx val hidx hq hset hsend
  cases hset.symm.trans (exec_setch (by simp [hq]) idx val)
  rw [writeChannel_of_lt s hidx] at hsend
  cases hsend.symm.trans (exec_send (by simp [hq]))
  exact sendFrame_tx hq

/-! Commands issued twice. -/

/-- Issued twice, the operation only responds the second time. -/
def Idempotent (perform : State → State) : Prop :=
  ∀ s : State, s.seq ≠ .fault →
    (perform s).seq ≠ .fault ∧ ∃ c d, perform (perform s) = (perform s).respond c d

theorem idempotent_turnLoopOn : Idempotent State.turnLoopOn := by
  intro s hq
  have hseq : s.turnLoopOn.seq = s.seq := by
    unfold State.turnLoopOn
    split
    · rfl
    · split <;> rfl
  have hloop : s.turnLoopOn.loop = true := by
    unfold State.turnLoopOn
    split
    next h => exact h
    next => split <;> rfl
  exact ⟨hseq ▸ hq, .ok, 0, if_pos hloop⟩

theorem turnLoopOff_of_streaming {s : State} (hq : s.seq = .streaming) :
    s.turnLoopOff = State.done { s with loop := false, slotT := 0 } := if_pos hq

theorem turnLoopOff_of_other {s : State} (hq : s.seq ≠ .streaming) :
    s.turnLoopOff = State.done { s with loop := false } := if_neg hq

theorem idempotent_turnLoopOff : Idempotent State.turnLoopOff := by
  intro s hq
  by_cases hstreaming : s.seq = .streaming
  · rw [turnLoopOff_of_streaming hstreaming]
    exact ⟨hq, .ok, 0, turnLoopOff_of_streaming (s := State.done { s with loop := false, slotT := 0 }) hstreaming⟩
  · rw [turnLoopOff_of_other hstreaming]
    exact ⟨hq, .ok, 0, turnLoopOff_of_other (s := State.done { s with loop := false }) hstreaming⟩

theorem idempotent_stopSession : Idempotent State.stopSession :=
  fun _ _ => ⟨nofun, .ok, 0, rfl⟩

theorem idempotent_writeChannel (idx : BitVec 8) (val : Pulse) : Idempotent fun s => s.writeChannel idx val := by
  intro s hq
  dsimp only
  rcases lt_or_ge idx.toNat 16 with hidx | hidx
  · rw [writeChannel_of_lt s hidx]
    refine ⟨hq, .ok, 0, (writeChannel_of_lt _ hidx val).trans ?_⟩
    rw [Vector.set_set]
    rfl
  · rw [writeChannel_of_le s hidx]
    exact ⟨hq, .configError, 0, writeChannel_of_le _ hidx val⟩

theorem idempotent_chooseProtocol (id : BitVec 8) : Idempotent fun s => s.chooseProtocol id := by
  intro s hq
  dsimp only
  by_cases hidle : s.seq = .idle
  · by_cases hid : ∀ p ∈ s.par.protoSet, p.toNat ≠ id.toNat
    · rw [chooseProtocol_of_not_mem hidle hid]
      exact ⟨hq, .configError, 0, chooseProtocol_of_not_mem (s := s.respond .configError 0) hidle hid⟩
    · push Not at hid
      obtain ⟨p, hp, hid⟩ := hid
      rw [chooseProtocol_of_mem hidle hp hid]
      exact ⟨hq, .ok, 0, chooseProtocol_of_mem (s := (s.selectProtocol p).done) hidle hp hid⟩
  · have hrefused : s.chooseProtocol id = s.respond .stateError 0 := if_pos hidle
    rw [hrefused]
    exact ⟨hq, .stateError, 0, if_pos hidle⟩

/-- The FAULT check keeps a command idempotent: in FAULT it is refused both times. -/
theorem exec_twice {i : Instr} {perform : State → State} (hi : ∀ s, exec i s = .next (s.unlessFault perform))
    (h : Idempotent perform) {s t u : State} (ht : exec i s = .next t) (hu : exec i t = .next u) :
    u = { t with rsp := u.rsp } := by
  cases ht.symm.trans (hi s)
  cases hu.symm.trans (hi _)
  by_cases hq : s.seq = .fault
  · rw [s.unlessFault_fault perform hq, State.unlessFault_fault (s.respond .transportError 0) perform hq]
    rfl
  · obtain ⟨hq', c, d, heq⟩ := h s hq
    rw [s.unlessFault_other perform hq, (perform s).unlessFault_other perform hq', heq]
    rfl

/-- In STREAMING each SEND is a frame. -/
theorem send_twice {s t u : State} (hq : s.seq = .streaming) (ht : exec .send s = .next t)
    (hu : exec .send t = .next u) : u.tx = s.tx ++ [buildControl s.proto s.ch, buildControl s.proto s.ch] := by
  have hsend := exec_send (s := s) (by simp [hq])
  rw [sendFrame_streaming hq] at hsend
  cases ht.symm.trans hsend
  have hq' : SeqState.streaming ≠ .fault := by decide
  cases hu.symm.trans (exec_send (hq ▸ hq'))
  refine (sendFrame_tx ?_).trans ?_
  · exact hq
  · exact List.append_assoc s.tx _ _

/-- A session that has begun is no longer in IDLE. -/
theorem beginSession_inSession (s : State) (flags : BitVec 8) (secs : BitVec 16) :
    (s.loadSession flags secs).beginSession.seq.inSession = true := by
  rw [beginSession_seq]
  split
  · rfl
  · split <;> rfl

/-- Settles O34: the reads respond and no more; the five operations are `Idempotent`, with the FAULT check too; SEND
emits twice; and the state check refuses a START in a session. -/
theorem commandsAreIdempotentButSendAndStart : Obligations.CommandsAreIdempotentButSendAndStart := by
  refine ⟨fun i s t hi ht => ?_, fun i s t u hi ht hu => ?_, fun s t u hq ht hu => send_twice hq ht hu,
    fun flags secs s t hw hq hp ht => ?_⟩
  · obtain rfl | rfl | ⟨idx, rfl⟩ := hi
    · cases ht
      rfl
    · cases ht
      rfl
    · rcases lt_or_ge idx.toNat 16 with hidx | hidx
      · cases ht.symm.trans (congrArg Host.Outcome.next (readChannel_of_lt s hidx))
        rfl
      · cases ht.symm.trans (congrArg Host.Outcome.next (readChannel_of_le s hidx))
        rfl
  · obtain rfl | rfl | rfl | ⟨id, rfl⟩ | ⟨idx, val, rfl⟩ := hi
    · exact exec_twice (fun _ => rfl) idempotent_turnLoopOn ht hu
    · exact exec_twice (fun _ => rfl) idempotent_turnLoopOff ht hu
    · exact exec_twice (fun _ => rfl) idempotent_stopSession ht hu
    · exact exec_twice (fun _ => rfl) (idempotent_chooseProtocol id) ht hu
    · exact exec_twice (fun _ => rfl) (idempotent_writeChannel idx val) ht hu
  · cases ht.symm.trans (exec_start_accepted secs hw hq hp)
    have hsession := beginSession_inSession s flags secs
    exact exec_stateError hw (ne_fault_of_inSession hsession) (beq_eq_false_iff_ne.mpr (ne_idle_of_inSession hsession))

/-! Events of one cycle. -/

theorem cycle_events_of_rst {c : Cycle} (h : c.rst = true) : c.events = [.rst] := if_pos h

theorem tick_of_streaming_loop {s : State} (ht : s.slotT = 1) (hq : s.seq = .streaming) (hloop : s.loop = true) :
    s.tick = { s.emitControl with slotT := s.par.streamPeriodMs } :=
  (tick_of_streaming ht hq).trans (slotStreaming_of_loop hloop)

theorem receive_of_decode {w : CmdWord} {i : Instr} {s : State} (hd : decodeCommand w = .ok i) :
    receive (.cmd w) s = exec i s := by
  simp [receive, receiveCommand, hd]

/-- Two events that have just arrived are the next two steps. -/
theorem run_two {s u t : State} {c : Cycle} {e f : Event} (hinq : s.inq = []) (hc : c.events = [e, f])
    (hu : receive e { s with inq := [f] } = .next u) (huf : u.inq = [f])
    (ht : receive f { u with inq := [] } = .next t) : Host.Core.run Sys2Proof.core 2 (s.arrive c) = .next t := by
  have harrived : (s.arrive c).inq = [e, f] := by rw [State.arrive, hinq, hc]; rfl
  rw [run_step ((step_of_event harrived).trans hu), run_step ((step_of_event huf).trans ht)]
  rfl

/-- Settles O51: after the TXERR the TICK finds FAULT, and the SETCH comes after the slot's frame has left. -/
theorem eventsOfOneCycleAreOrdered : Obligations.EventsOfOneCycleAreOrdered := by
  refine ⟨fun c h => cycle_events_of_rst h, fun s c hinq hrst htxerr htick hcmd => ?_,
    fun s c idx val hidx hinq hrst htxerr htick hcmd hq hloop ht => ?_⟩
  · have hevents : c.events = [.txerr, .tick] := by simp [Cycle.events, hrst, htxerr, htick, hcmd]
    refine ⟨_, run_two hinq hevents rfl rfl rfl, ?_⟩
    rw [tick_of_fault rfl]
    exact ⟨rfl, rfl, rfl⟩
  · have hevents : c.events = [.tick, .cmd (encode (.setch idx val))] := by
      simp [Cycle.events, hrst, htxerr, htick, hcmd]
    have hslot := tick_of_streaming_loop (s := { s with inq := [.cmd (encode (.setch idx val))] }) ht hq hloop
    refine ⟨_, run_two hinq hevents (congrArg Host.Outcome.next hslot) rfl
      ((receive_of_decode (decodeCommand_encode rfl rfl)).trans (exec_setch ?_ idx val)), ?_⟩
    · exact ne_fault_of_inSession (show s.seq.inSession = true by rw [hq]; rfl)
    · rw [writeChannel_of_lt _ hidx]
      exact ⟨rfl, rfl⟩

end Sys2Proof.Proofs

/-! Runs of TICKs: the times and the frames of each state of a session (43_sequencer, R185 to R189 and R191). -/

namespace Sys2Proof.Proofs

open Sys2Proof Sys2Proof.Machine

/-! The TICKs up to a slot and the slot. -/

/-- `n` TICKs that stay short of the next slot, in BIND below the saturation of the bind time. -/
theorem ticks_before_slot_bind {s : State} (hq : s.seq = .bind) (n : Nat) (h : n < s.slotT.toNat)
    (hmax : s.bindElapsed.toNat + n < 2 ^ 26) :
    State.ticks n s =
      { s with slotT := s.slotT - BitVec.ofNat 7 n, bindElapsed := s.bindElapsed + BitVec.ofNat 26 n } := by
  induction n generalizing s with
  | zero => simp
  | succ n ih =>
    have h0 : s.slotT ≠ 0 := by intro hc; simp [hc] at h
    have h1 : s.slotT ≠ 1 := by intro hc; simp [hc] at h
    obtain ⟨-, hsub⟩ := slotT_sub_one h0 h1
    have helapsed : (s.bindElapsed + 1).toNat = s.bindElapsed.toNat + 1 := by simp; omega
    rw [State.ticks_succ, State.tick_counts h0 h1, State.elapsedAfterTick_bind hq (by omega), ih]
    · congr 1
      · show s.slotT - 1 - BitVec.ofNat 7 n = s.slotT - BitVec.ofNat 7 (n + 1)
        rw [BitVec.ofNat_add, BitVec.sub_sub, BitVec.add_comm]
        rfl
      · show s.bindElapsed + 1 + BitVec.ofNat 26 n = s.bindElapsed + BitVec.ofNat 26 (n + 1)
        rw [BitVec.ofNat_add, BitVec.add_assoc, BitVec.add_comm 1]
        rfl
    · exact hq
    · show n < (s.slotT - 1).toNat
      omega
    · show (s.bindElapsed + 1).toNat + n < 2 ^ 26
      omega

theorem slotT_sub_eq_one {t : BitVec 7} {n : Nat} (h : t.toNat = n + 1) : t - BitVec.ofNat 7 n = 1 := by
  have hlt := t.isLt
  apply BitVec.eq_of_toNat_eq
  simp [BitVec.toNat_sub]
  omega

/-- The TICKs up to a slot and the slot, outside BIND. -/
theorem ticks_slot {s : State} (hq : s.seq ≠ .bind) {n : Nat} (hn : 0 < n) (h : s.slotT.toNat = n) :
    State.ticks n s = State.slot { s with slotT := 0 } := by
  obtain ⟨n, rfl⟩ := Nat.exists_eq_add_one.mpr hn
  rw [State.ticks_add, State.ticks_before_slot hq n (by omega), slotT_sub_eq_one h]
  exact tick_of_slot rfl rfl hq

/-- The TICKs up to a slot and the slot, in BIND: the bind time counts them all. -/
theorem ticks_slot_bind {s : State} (hq : s.seq = .bind) {n : Nat} (hn : 0 < n) (h : s.slotT.toNat = n)
    (hmax : s.bindElapsed.toNat + n < 2 ^ 26) :
    State.ticks n s = State.slotBind { s with slotT := 0, bindElapsed := s.bindElapsed + BitVec.ofNat 26 n } := by
  obtain ⟨n, rfl⟩ := Nat.exists_eq_add_one.mpr hn
  rw [State.ticks_add, ticks_before_slot_bind hq n (by omega) (by omega), slotT_sub_eq_one h]
  refine (tick_of_bind
    (s := { s with slotT := 1, bindElapsed := s.bindElapsed + BitVec.ofNat 26 n }) rfl hq).trans ?_
  rw [State.elapsedAfterTick_bind (s := { s with slotT := 1, bindElapsed := s.bindElapsed + BitVec.ofNat 26 n }) hq]
  · rw [BitVec.ofNat_add, ← BitVec.add_assoc]
    rfl
  · simp
    omega

/-- `SLOT_T` between slots. -/
theorem slotT_sub_toNat {t : BitVec 7} {j : Nat} (h : j < t.toNat) : (t - BitVec.ofNat 7 j).toNat = t.toNat - j := by
  have hlt := t.isLt
  simp [BitVec.toNat_sub]
  omega

/-! What TICKs keep. -/

/-- `t` is in the session of `s`: the registers that only events other than TICK write are the same. -/
structure SameSession (s t : State) : Prop where
  ch : t.ch = s.ch
  proto : t.proto = s.proto
  loop : t.loop = s.loop
  bindEn : t.bindEn = s.bindEn
  fsEn : t.fsEn = s.fsEn
  bindLimit : t.bindLimit = s.bindLimit
  par : t.par = s.par

theorem SameSession.trans {s t u : State} (h : SameSession s t) (h' : SameSession t u) : SameSession s u :=
  ⟨h'.ch.trans h.ch, h'.proto.trans h.proto, h'.loop.trans h.loop, h'.bindEn.trans h.bindEn, h'.fsEn.trans h.fsEn,
    h'.bindLimit.trans h.bindLimit, h'.par.trans h.par⟩

theorem SameSession.symm {s t : State} (h : SameSession s t) : SameSession t s :=
  ⟨h.ch.symm, h.proto.symm, h.loop.symm, h.bindEn.symm, h.fsEn.symm, h.bindLimit.symm, h.par.symm⟩

theorem sameSession_tick (s : State) : SameSession s s.tick := { s.tick_keeps with }

theorem sameSession_ticks (n : Nat) (s : State) : SameSession s (State.ticks n s) := by
  induction n generalizing s with
  | zero => exact ⟨rfl, rfl, rfl, rfl, rfl, rfl, rfl⟩
  | succ n ih => exact (sameSession_tick s).trans (ih s.tick)

/-! Runs of frames of one state. -/

/-- The frame of the row of `q`; in IDLE and FAULT there is none. -/
def frameIn (q : SeqState) (s : State) : Frame :=
  match q with
  | .priming => buildPriming
  | .bind => buildBind s.proto s.ch
  | .failsafe => buildFailsafe s.proto
  | .streaming | .idle | .fault => buildControl s.proto s.ch

theorem frameIn_of_sameSession {s t : State} (h : SameSession s t) (q : SeqState) : frameIn q t = frameIn q s := by
  cases q <;> simp [frameIn, h.proto, h.ch]

theorem emitIn_tx {q : SeqState} (hq : q.inSession = true) (s : State) : (emitIn q s).tx = s.tx ++ [frameIn q s] := by
  cases q with
  | idle | fault => cases hq
  | priming | bind | failsafe | streaming => rfl

theorem emitIn_seq (q : SeqState) (s : State) : (emitIn q s).seq = s.seq := by
  cases q <;> rfl

/-- Frames of one row add up. -/
theorem tx_append_replicate {q : SeqState} (hq : q.inSession = true) {s t : State} (hst : SameSession s t) {k : Nat}
    (ht : t.tx = s.tx ++ List.replicate k (frameIn q s)) :
    (emitIn q t).tx = s.tx ++ List.replicate (k + 1) (frameIn q s) := by
  rw [emitIn_tx hq, frameIn_of_sameSession hst, ht, List.replicate_succ', List.append_assoc]

/-! The counted bursts, PRIMING and FAILSAFE. -/

/-- The two states whose frames CNT counts. -/
def Counted (q : SeqState) : Prop := q = .priming ∨ q = .failsafe

theorem Counted.inSession {q : SeqState} (h : Counted q) : q.inSession = true := by
  rcases h with rfl | rfl <;> rfl

theorem Counted.ne_bind {q : SeqState} (h : Counted q) : q ≠ .bind := by
  rcases h with rfl | rfl <;> decide

/-- One frame of a counted burst: 50 TICKs after the last. -/
theorem ticks_counted {q : SeqState} (hc : Counted q) {s : State} (hq : s.seq = q) (ht : s.slotT = gapMs)
    (hcnt : s.cnt.toNat < 10) : State.ticks 50 s = { emitIn q s with cnt := s.cnt + 1, slotT := gapMs } := by
  rw [ticks_slot (hq ▸ hc.ne_bind) (by decide) (by rw [ht]; rfl)]
  rcases hc with rfl | rfl
  · exact (slot_of_priming (s := { s with slotT := 0 }) hq).trans (slotPriming_of_lt hcnt)
  · exact (slot_of_failsafe (s := { s with slotT := 0 }) hq).trans (slotFailsafe_of_lt hcnt)

theorem counted_after_frames {q : SeqState} (hc : Counted q) {s : State} (hq : s.seq = q) (ht : s.slotT = gapMs)
    (k : Nat) (hk : s.cnt.toNat + k ≤ 10) :
    (State.ticks (50 * k) s).seq = q ∧ (State.ticks (50 * k) s).cnt.toNat = s.cnt.toNat + k ∧
      (State.ticks (50 * k) s).slotT = gapMs ∧
      (State.ticks (50 * k) s).tx = s.tx ++ List.replicate k (frameIn q s) := by
  induction k with
  | zero => exact ⟨hq, rfl, ht, (List.append_nil _).symm⟩
  | succ k ih =>
    obtain ⟨hseq, hcnt, hslot, htx⟩ := ih (by omega)
    have hsum : ((State.ticks (50 * k) s).cnt + 1).toNat = s.cnt.toNat + (k + 1) := by
      simp [hcnt]
      omega
    rw [Nat.mul_succ, State.ticks_add, ticks_counted hc hseq hslot (by omega)]
    exact ⟨(emitIn_seq _ _).trans hseq, hsum, rfl, tx_append_replicate hc.inSession (sameSession_ticks _ _) htx⟩

/-- The state and the frames at every TICK of a counted burst. -/
theorem counted_schedule {q : SeqState} (hc : Counted q) {s : State} (hq : s.seq = q) (ht : s.slotT = gapMs) {k j : Nat}
    (hk : s.cnt.toNat + k ≤ 10) (hj : j < 50) :
    (State.ticks (50 * k + j) s).seq = q ∧ (State.ticks (50 * k + j) s).cnt.toNat = s.cnt.toNat + k ∧
      (State.ticks (50 * k + j) s).slotT.toNat = 50 - j ∧
      (State.ticks (50 * k + j) s).tx = s.tx ++ List.replicate k (frameIn q s) := by
  obtain ⟨hseq, hcnt, hslot, htx⟩ := counted_after_frames hc hq ht k hk
  have hj' : j < (State.ticks (50 * k) s).slotT.toNat := by rw [hslot]; exact hj
  rw [State.ticks_add, State.ticks_before_slot (hseq ▸ hc.ne_bind) j hj']
  exact ⟨hseq, hcnt, (slotT_sub_toNat hj').trans (by rw [hslot]; rfl), htx⟩

/-- The slot that ends a counted burst: the TICK 500 after its first frame, with nine more frames sent. -/
theorem counted_end {q : SeqState} (hc : Counted q) {s : State} (hq : s.seq = q) (hcnt : s.cnt = 1)
    (ht : s.slotT = gapMs) :
    ∃ t, SameSession s t ∧ t.seq = q ∧ 10 ≤ t.cnt.toNat ∧ t.tx = s.tx ++ List.replicate 9 (frameIn q s) ∧
      State.ticks 500 s = t.slot := by
  obtain ⟨hseq, hten, hslot, htx⟩ := counted_after_frames hc hq ht 9 (by rw [hcnt]; decide)
  have hsame := sameSession_ticks (50 * 9) s
  rw [show 500 = 50 * 9 + 50 from rfl, State.ticks_add]
  generalize State.ticks (50 * 9) s = t at *
  exact ⟨{ t with slotT := 0 }, { hsame with }, hseq, (hten.trans (by rw [hcnt]; rfl)).ge, htx,
    ticks_slot (hseq ▸ hc.ne_bind) (by decide) (by rw [hslot]; rfl)⟩

/-- Settles O42: the schedule of a counted burst, then the branch of `slotPriming` that the slot with CNT = 10 takes. -/
theorem primingBurstTakes500Ticks : Obligations.PrimingBurstTakes500Ticks := by
  intro s hq hcnt ht
  obtain ⟨t, hsame, hseq, hten, htx, hend⟩ := counted_end (.inl rfl) hq hcnt ht
  rw [slot_of_priming hseq] at hend
  replace htx : t.tx = s.tx ++ List.replicate 9 buildPriming := htx
  refine ⟨fun k j hk hj => ?_, fun hen hlimit => ?_, fun hen hlimit => ?_, fun hen hfs => ?_,
    fun hen hfs hloop => ?_, fun hen hfs hloop => ?_⟩
  · obtain ⟨hseq, hcnt', hslot, htx⟩ :=
      counted_schedule (.inl rfl) hq ht (k := k) (by rw [hcnt]; exact Nat.add_le_add_left hk 1) hj
    rw [hcnt] at hcnt'
    exact ⟨hseq, hcnt'.trans (Nat.add_comm 1 k), hslot, htx⟩
  · rw [hend, slotPriming_to_bind hten (hsame.bindEn.trans hen) (hsame.bindLimit ▸ hlimit), ← htx, ← hsame.proto,
      ← hsame.ch]
    exact ⟨rfl, rfl, rfl, rfl⟩
  · rw [hend, slotPriming_through_bind hten (hsame.bindEn.trans hen) (hsame.bindLimit.trans hlimit), ← htx,
      ← hsame.proto]
    exact ⟨rfl, rfl, rfl, rfl, rfl⟩
  · rw [hend, slotPriming_to_failsafe hten (hsame.bindEn.trans hen) (hsame.fsEn.trans hfs), ← htx, ← hsame.proto]
    exact ⟨rfl, rfl, rfl, rfl⟩
  · rw [hend, slotPriming_to_streaming hten (hsame.bindEn.trans hen) (hsame.fsEn.trans hfs),
      enterStreaming_of_loop (hsame.loop.trans hloop), ← htx, ← hsame.proto, ← hsame.ch, ← hsame.par]
    exact ⟨rfl, rfl, rfl⟩
  · rw [hend, slotPriming_to_streaming hten (hsame.bindEn.trans hen) (hsame.fsEn.trans hfs),
      enterStreaming_of_not_loop (hsame.loop.trans hloop), ← htx]
    exact ⟨rfl, rfl, rfl, rfl⟩

/-! BIND. -/

/-- One bind frame: 50 TICKs after the last, while the bind time is below the limit. -/
theorem ticks_bind {s : State} (hq : s.seq = .bind) (ht : s.slotT = gapMs)
    (hlt : s.bindElapsed.toNat + 50 < s.bindLimit.toNat) :
    State.ticks 50 s = { s.emitBind with bindElapsed := s.bindElapsed + 50, slotT := gapMs } := by
  have hlimit := s.bindLimit.isLt
  rw [ticks_slot_bind hq (by decide) (by rw [ht]; rfl) (by omega), slotBind_of_lt]
  · rfl
  · show s.bindElapsed + 50 < s.bindLimit
    rw [BitVec.lt_def]
    simp
    omega

theorem bind_after_frames {s : State} (hq : s.seq = .bind) (h0 : s.bindElapsed = 0) (ht : s.slotT = gapMs) (k : Nat)
    (hk : 50 * k < s.bindLimit.toNat) :
    (State.ticks (50 * k) s).seq = .bind ∧ (State.ticks (50 * k) s).bindElapsed.toNat = 50 * k ∧
      (State.ticks (50 * k) s).slotT = gapMs ∧
      (State.ticks (50 * k) s).tx = s.tx ++ List.replicate k (buildBind s.proto s.ch) := by
  induction k with
  | zero => exact ⟨hq, by rw [Nat.mul_zero, State.ticks_zero, h0]; rfl, ht, (List.append_nil _).symm⟩
  | succ k ih =>
    obtain ⟨hseq, helapsed, hslot, htx⟩ := ih (by omega)
    have hsame := sameSession_ticks (50 * k) s
    have hlimit := s.bindLimit.isLt
    have hsum : ((State.ticks (50 * k) s).bindElapsed + 50).toNat = 50 * (k + 1) := by
      simp [helapsed]
      omega
    rw [Nat.mul_succ, State.ticks_add, ticks_bind hseq hslot (by rw [hsame.bindLimit, helapsed]; exact hk)]
    exact ⟨hseq, hsum, rfl, tx_append_replicate (q := .bind) rfl hsame htx⟩

theorem bind_schedule {s : State} (hq : s.seq = .bind) (h0 : s.bindElapsed = 0) (ht : s.slotT = gapMs) {k j : Nat}
    (hk : 50 * k < s.bindLimit.toNat) (hj : j < 50) (hmax : s.bindLimit.toNat ≤ 65535000) :
    (State.ticks (50 * k + j) s).seq = .bind ∧ (State.ticks (50 * k + j) s).bindElapsed.toNat = 50 * k + j ∧
      (State.ticks (50 * k + j) s).slotT.toNat = 50 - j ∧
      (State.ticks (50 * k + j) s).tx = s.tx ++ List.replicate k (buildBind s.proto s.ch) := by
  obtain ⟨hseq, helapsed, hslot, htx⟩ := bind_after_frames hq h0 ht k hk
  have hj' : j < (State.ticks (50 * k) s).slotT.toNat := by rw [hslot]; exact hj
  have hsum : ((State.ticks (50 * k) s).bindElapsed + BitVec.ofNat 26 j).toNat = 50 * k + j := by
    simp [helapsed]
    omega
  rw [State.ticks_add, ticks_before_slot_bind hseq j hj' (by omega)]
  exact ⟨hseq, hsum, (slotT_sub_toNat hj').trans (by rw [hslot]; rfl), htx⟩

/-- The slot that ends BIND. -/
theorem bind_end {s : State} {secs : Nat} (hsecs : 1 ≤ secs) (hmax : secs ≤ 65535) (hq : s.seq = .bind)
    (h0 : s.bindElapsed = 0) (ht : s.slotT = gapMs) (hlimit : s.bindLimit.toNat = 1000 * secs) :
    (State.ticks (1000 * secs) s).seq = .failsafe ∧ (State.ticks (1000 * secs) s).cnt = 1 ∧
      (State.ticks (1000 * secs) s).slotT = gapMs ∧
      (State.ticks (1000 * secs) s).bindElapsed.toNat = 1000 * secs ∧
      (State.ticks (1000 * secs) s).tx =
        s.tx ++ List.replicate (20 * secs - 1) (buildBind s.proto s.ch) ++ [buildFailsafe s.proto] := by
  obtain ⟨hseq, helapsed, hslot, htx⟩ := bind_after_frames hq h0 ht (20 * secs - 1) (by omega)
  have hsame := sameSession_ticks (50 * (20 * secs - 1)) s
  have hsum : ((State.ticks (50 * (20 * secs - 1)) s).bindElapsed + 50).toNat = 1000 * secs := by
    simp [helapsed]
    omega
  rw [show 1000 * secs = 50 * (20 * secs - 1) + 50 by omega, State.ticks_add,
    ticks_slot_bind hseq (by decide) (by rw [hslot]; rfl) (by omega), slotBind_of_ge]
  · rw [← htx, ← hsame.proto]
    exact ⟨rfl, rfl, rfl, hsum.trans (by omega), rfl⟩
  · rw [BitVec.le_def]
    exact (hsame.bindLimit ▸ hlimit).trans_le hsum.ge

/-- Settles O43: the schedule of BIND, and the slot with the bind time at the limit. -/
theorem bindLastsExactlyItsDuration : Obligations.BindLastsExactlyItsDuration := by
  intro s secs hsecs hmax hq h0 ht hlimit
  exact ⟨fun k j hj hk => bind_schedule hq h0 ht (by omega) hj (by omega),
    bind_end hsecs hmax hq h0 ht hlimit⟩

/-! STREAMING. -/

theorem ticks_streaming {s : State} (hq : s.seq = .streaming) (hloop : s.loop = true)
    (ht : s.slotT = s.par.streamPeriodMs) (hpos : 0 < s.par.streamPeriodMs.toNat) :
    State.ticks s.par.streamPeriodMs.toNat s = { s.emitControl with slotT := s.par.streamPeriodMs } := by
  rw [ticks_slot (by simp [hq]) hpos (by rw [ht])]
  exact (slot_of_streaming (s := { s with slotT := 0 }) hq).trans (slotStreaming_of_loop hloop)

theorem streaming_after_frames {s : State} (hq : s.seq = .streaming) (hloop : s.loop = true)
    (ht : s.slotT = s.par.streamPeriodMs) (hpos : 0 < s.par.streamPeriodMs.toNat) (k : Nat) :
    (State.ticks (s.par.streamPeriodMs.toNat * k) s).seq = .streaming ∧
      (State.ticks (s.par.streamPeriodMs.toNat * k) s).slotT = s.par.streamPeriodMs ∧
      (State.ticks (s.par.streamPeriodMs.toNat * k) s).tx =
        s.tx ++ List.replicate k (buildControl s.proto s.ch) := by
  induction k with
  | zero => exact ⟨hq, ht, (List.append_nil _).symm⟩
  | succ k ih =>
    obtain ⟨hseq, hslot, htx⟩ := ih
    have hsame := sameSession_ticks (s.par.streamPeriodMs.toNat * k) s
    have hperiod := ticks_streaming hseq (hsame.loop.trans hloop) (by rw [hslot, hsame.par]) (by rwa [hsame.par])
    rw [hsame.par] at hperiod
    rw [Nat.mul_succ, State.ticks_add, hperiod]
    exact ⟨hseq, rfl, tx_append_replicate (q := .streaming) rfl hsame htx⟩

/-- Settles O45: one frame a period by `streaming_after_frames`, and the TICKs before the next slot. -/
theorem streamingSendsOneFramePerPeriod : Obligations.StreamingSendsOneFramePerPeriod := by
  intro s k j hq hloop ht hj
  obtain ⟨hseq, hslot, htx⟩ := streaming_after_frames hq hloop ht (by omega) k
  rw [← hslot] at hj
  rw [State.ticks_add, State.ticks_before_slot (by simp [hseq]) j hj]
  exact ⟨hseq, (slotT_sub_toNat hj).trans (by rw [hslot]), htx⟩

end Sys2Proof.Proofs

/-! The frames of a whole session (43_sequencer, R155 and R191). -/

namespace Sys2Proof.Proofs

open Sys2Proof Sys2Proof.Machine

/-- `t` has just entered STREAMING in the session of `s`, with the frames `sent` gone before. -/
structure EntersStreaming (s : State) (sent : List Frame) (t : State) : Prop where
  seq : t.seq = .streaming
  cnt : t.cnt = 0
  slotT : t.slotT = if s.loop = true then s.par.streamPeriodMs else 0
  tx : t.tx = sent ++ if s.loop = true then [buildControl s.proto s.ch] else []

theorem entersStreaming_enterStreaming (s : State) : EntersStreaming s s.tx s.enterStreaming := by
  cases hloop : s.loop with
  | true =>
    rw [enterStreaming_of_loop hloop]
    exact ⟨rfl, rfl, by rw [hloop]; rfl, by rw [hloop]; rfl⟩
  | false =>
    rw [enterStreaming_of_not_loop hloop]
    exact ⟨rfl, rfl, by rw [hloop]; rfl, by rw [hloop]; exact (List.append_nil _).symm⟩

theorem EntersStreaming.of_sameSession {s t u : State} {sent : List Frame} (hst : SameSession s t)
    (h : EntersStreaming t sent u) : EntersStreaming s sent u where
  seq := h.seq
  cnt := h.cnt
  slotT := by rw [h.slotT, hst.loop, hst.par]
  tx := by rw [h.tx, hst.loop, hst.proto, hst.ch]

/-- With TICKs alone `s` sends the frames `fs`, one every 50 TICKs with the first already gone, after the frames
`before`, and then enters STREAMING. -/
structure RunsInto (before : List Frame) (s : State) (fs : List Frame) : Prop where
  burst : ∀ j < 50 * fs.length, (State.ticks j s).seq.inBurst = true ∧
    (State.ticks j s).tx = before ++ fs.take (j / 50 + 1)
  entry : EntersStreaming s (before ++ fs) (State.ticks (50 * fs.length) s)

/-- With no burst to come. -/
theorem EntersStreaming.runsInto_nil {s u : State} {before : List Frame} (h : EntersStreaming s before u)
    (hsame : SameSession s u) : RunsInto before u [] where
  burst := fun _ hj => absurd hj (Nat.not_lt_zero _)
  entry := (List.append_nil before).symm ▸ h.of_sameSession hsame.symm

theorem runsInto_enterStreaming (s : State) : RunsInto s.tx s.enterStreaming [] :=
  (entersStreaming_enterStreaming s).runsInto_nil { s.enterStreaming_keeps with }

/-- A burst of equal frames, then the rest of the session. -/
theorem RunsInto.append {before : List Frame} {s : State} {n : Nat} {f : Frame} {gs : List Frame}
    (hburst : ∀ k < n, ∀ j < 50, (State.ticks (50 * k + j) s).seq.inBurst = true ∧
      (State.ticks (50 * k + j) s).tx = before ++ List.replicate (k + 1) f)
    (h : RunsInto (before ++ List.replicate n f) (State.ticks (50 * n) s) gs) :
    RunsInto before s (List.replicate n f ++ gs) where
  burst := by
    intro j hj
    rw [List.length_append, List.length_replicate] at hj
    rcases lt_or_ge j (50 * n) with hlt | hge
    · obtain ⟨hseq, htx⟩ := hburst (j / 50) (by omega) (j % 50) (Nat.mod_lt _ (by decide))
      rw [Nat.div_add_mod] at hseq htx
      rw [List.take_append_of_le_length (by simp; omega), List.take_replicate, Nat.min_eq_left (by omega)]
      exact ⟨hseq, htx⟩
    · obtain ⟨i, rfl⟩ := Nat.exists_eq_add_of_le hge
      obtain ⟨hseq, htx⟩ := h.burst i (by omega)
      rw [State.ticks_add, show (50 * n + i) / 50 + 1 = (List.replicate n f).length + (i / 50 + 1) by simp; omega,
        List.take_length_add_append, ← List.append_assoc]
      exact ⟨hseq, htx⟩
  entry := by
    rw [List.length_append, List.length_replicate, Nat.mul_add, State.ticks_add, ← List.append_assoc]
    exact h.entry.of_sameSession (sameSession_ticks _ s)

/-- A frame before a run of the same frame. -/
theorem append_singleton_append_replicate (before : List Frame) (f : Frame) (k : Nat) :
    before ++ [f] ++ List.replicate k f = before ++ List.replicate (k + 1) f := by
  rw [List.replicate_succ, List.append_assoc, List.singleton_append]

/-- The ten frames of a counted burst, the first already gone, then the rest of the session from the slot with
CNT = 10. -/
theorem runsInto_counted {q : SeqState} (hc : Counted q) {before : List Frame} {s : State} {gs : List Frame}
    (hq : s.seq = q) (hcnt : s.cnt = 1) (ht : s.slotT = gapMs) (htx : s.tx = before ++ [frameIn q s])
    (hrest : ∀ t, SameSession s t → t.seq = q → 10 ≤ t.cnt.toNat → RunsInto t.tx t.slot gs) :
    RunsInto before s (List.replicate 10 (frameIn q s) ++ gs) := by
  refine .append (fun k hk j hj => ?_) ?_
  · have hcount : s.cnt.toNat + k ≤ 10 := by rw [hcnt]; exact Nat.add_le_add_left (Nat.le_of_lt_succ hk) 1
    obtain ⟨hseq, -, -, htx'⟩ := counted_schedule hc hq ht hcount hj
    rw [htx', htx, append_singleton_append_replicate, hseq]
    exact ⟨by rcases hc with rfl | rfl <;> rfl, rfl⟩
  · obtain ⟨t, hsame, hseq, hten, htx', hend⟩ := counted_end hc hq hcnt ht
    rw [htx, append_singleton_append_replicate] at htx'
    rw [hend, ← htx']
    exact hrest t hsame hseq hten

theorem runsInto_failsafe {before : List Frame} {s : State} (hq : s.seq = .failsafe) (hcnt : s.cnt = 1)
    (ht : s.slotT = gapMs) (htx : s.tx = before ++ [buildFailsafe s.proto]) :
    RunsInto before s (List.replicate 10 (buildFailsafe s.proto)) := by
  rw [← List.append_nil (List.replicate _ _)]
  refine runsInto_counted (.inr rfl) hq hcnt ht htx fun t _ hseq hten => ?_
  rw [slot_of_failsafe hseq, slotFailsafe_of_ge hten]
  exact runsInto_enterStreaming t

theorem runsInto_bind {before : List Frame} {s : State} {secs : Nat} (hsecs : 1 ≤ secs) (hmax : secs ≤ 65535)
    (hq : s.seq = .bind) (h0 : s.bindElapsed = 0) (ht : s.slotT = gapMs) (hlimit : s.bindLimit.toNat = 1000 * secs)
    (htx : s.tx = before ++ [buildBind s.proto s.ch]) :
    RunsInto before s
      (List.replicate (20 * secs) (buildBind s.proto s.ch) ++ List.replicate 10 (buildFailsafe s.proto)) := by
  refine .append (fun k hk j hj => ?_) ?_
  · obtain ⟨hseq, -, -, htx'⟩ := bind_schedule hq h0 ht (k := k) (by omega) hj (by omega)
    rw [htx', htx, append_singleton_append_replicate, hseq]
    exact ⟨rfl, rfl⟩
  · obtain ⟨hseq, hcnt, hslot, -, htx'⟩ := bind_end hsecs hmax hq h0 ht hlimit
    rw [htx, append_singleton_append_replicate, Nat.sub_add_cancel (by omega)] at htx'
    rw [show 50 * (20 * secs) = 1000 * secs by omega]
    have hproto := (sameSession_ticks (1000 * secs) s).proto
    rw [← hproto] at htx' ⊢
    exact runsInto_failsafe hseq hcnt hslot htx'

/-- The burst frames of a session of `s`: with which bursts, and of how many seconds the bind. -/
def burstFrames (primed bind failsafe : Bool) (secs : Nat) (s : State) : List Frame :=
  (if primed then List.replicate 10 buildPriming else []) ++
    (if bind then List.replicate (20 * secs) (buildBind s.proto s.ch) else []) ++
    (if failsafe then List.replicate 10 (buildFailsafe s.proto) else [])

theorem burstFrames_of_sameSession {s t : State} (h : SameSession s t) (primed bind failsafe : Bool) (secs : Nat) :
    burstFrames primed bind failsafe secs t = burstFrames primed bind failsafe secs s := by
  rw [burstFrames, h.proto, h.ch, burstFrames]

theorem burstFrames_primed (bind failsafe : Bool) (secs : Nat) (s : State) :
    burstFrames true bind failsafe secs s = List.replicate 10 buildPriming ++ burstFrames false bind failsafe secs s :=
  List.append_assoc _ _ _

theorem length_burstFrames (primed bind failsafe : Bool) (secs : Nat) (s : State) :
    50 * (burstFrames primed bind failsafe secs s).length =
      (if primed then 500 else 0) + (if bind then 1000 * secs else 0) + (if failsafe then 500 else 0) := by
  have hburst (b : Bool) (n : Nat) (f : Frame) :
      50 * (if b then List.replicate n f else []).length = if b then 50 * n else 0 := by
    cases b <;> simp
  rw [burstFrames, List.length_append, List.length_append, Nat.mul_add, Nat.mul_add, hburst, hburst, hburst,
    ← Nat.mul_assoc]

/-- The slot that ends PRIMING, by what the session has enabled. -/
theorem runsInto_slotPriming {s : State} {secs : Nat} (hten : 10 ≤ s.cnt.toNat) (hmax : secs ≤ 65535)
    (hlimit : s.bindLimit.toNat = 1000 * secs) :
    RunsInto s.tx s.slotPriming (burstFrames false s.bindEn (s.bindEn || s.fsEn) secs s) := by
  cases hen : s.bindEn with
  | true =>
    rcases Nat.eq_zero_or_pos secs with rfl | hpos
    · rw [slotPriming_through_bind hten hen (BitVec.eq_of_toNat_eq hlimit)]
      exact runsInto_failsafe rfl rfl rfl rfl
    · rw [slotPriming_to_bind hten hen (by omega)]
      exact runsInto_bind hpos hmax rfl rfl rfl hlimit rfl
  | false =>
    cases hfs : s.fsEn with
    | true =>
      rw [slotPriming_to_failsafe hten hen hfs]
      exact runsInto_failsafe rfl rfl rfl rfl
    | false =>
      rw [slotPriming_to_streaming hten hen hfs]
      exact runsInto_enterStreaming s

theorem runsInto_priming {before : List Frame} {s : State} {secs : Nat} (hq : s.seq = .priming) (hcnt : s.cnt = 1)
    (ht : s.slotT = gapMs) (hmax : secs ≤ 65535) (hlimit : s.bindLimit.toNat = 1000 * secs)
    (htx : s.tx = before ++ [buildPriming]) :
    RunsInto before s (burstFrames true s.bindEn (s.bindEn || s.fsEn) secs s) := by
  rw [burstFrames_primed]
  refine runsInto_counted (.inl rfl) hq hcnt ht htx fun t hsame hseq hten => ?_
  rw [slot_of_priming hseq, ← hsame.bindEn, ← hsame.fsEn, ← burstFrames_of_sameSession hsame]
  exact runsInto_slotPriming hten hmax (hsame.bindLimit ▸ hlimit)

/-- The session that an accepted START begins. -/
theorem runsInto_beginSession (s : State) (flags : BitVec 8) (secs : BitVec 16) :
    RunsInto s.tx (s.loadSession flags secs).beginSession.done
      (burstFrames (s.par.primeAlways || flags.getLsbD 0) (flags.getLsbD 0) (flags.getLsbD 0 || flags.getLsbD 1)
        secs.toNat s) := by
  have hmax : secs.toNat ≤ 65535 := Nat.le_of_lt_succ secs.isLt
  by_cases hprime : s.par.primeAlways = true ∨ flags.getLsbD 0 = true
  · rw [beginSession_of_priming secs hprime, (Bool.or_eq_true _ _).mpr hprime]
    exact runsInto_priming rfl rfl rfl hmax (bindLimitOf_toNat secs) rfl
  obtain ⟨halways, hbind⟩ := not_or.mp hprime
  rw [eq_false_of_ne_true halways, eq_false_of_ne_true hbind]
  cases hfs : flags.getLsbD 1 with
  | true =>
    rw [beginSession_of_failsafe secs hprime hfs]
    exact runsInto_failsafe rfl rfl rfl rfl
  | false =>
    rw [beginSession_of_streaming secs hprime hfs]
    have hstream : EntersStreaming (s.loadSession flags secs) s.tx (s.loadSession flags secs).enterStreaming.done :=
      { entersStreaming_enterStreaming (s.loadSession flags secs) with }
    exact hstream.runsInto_nil { (s.loadSession flags secs).enterStreaming_keeps with }

/-- Settles O44: `runsInto_beginSession`, with the registers of the session those of the state before START. -/
theorem sessionScheduleOfFrames : Obligations.SessionScheduleOfFrames := by
  intro s u flags secs hw hq hp hexec bind primed failsafe bursts streamingAt
  cases hexec.symm.trans (exec_start_accepted secs hw hq hp)
  have hruns : RunsInto s.tx (s.loadSession flags secs).beginSession.done bursts := runsInto_beginSession s flags secs
  have hlen : streamingAt = 50 * bursts.length := (length_burstFrames primed bind failsafe secs.toNat s).symm
  have hsame : SameSession (s.loadSession flags secs) (s.loadSession flags secs).beginSession.done :=
    { beginSession_keeps (s.loadSession flags secs) with }
  obtain ⟨hseq, hcnt, hslot, htx⟩ := hruns.entry.of_sameSession hsame
  rw [hlen]
  exact ⟨hruns.burst, hseq, hcnt, hslot, htx⟩

end Sys2Proof.Proofs

/-! The deadline of the loop (43_sequencer, R192). -/

namespace Sys2Proof.Proofs

open Sys2Proof Sys2Proof.Machine

/-- From `s` to `t`, which streams with the loop on, `k` TICKs have been taken and the control frames `sent` have left;
without a frame the slot timer has counted the TICKs. -/
structure StreamsOn (s t : State) (sent : List Frame) (k : Nat) : Prop where
  seq : t.seq = .streaming
  loop : t.loop = true
  proto : t.proto = s.proto
  tx : t.tx = s.tx ++ sent
  control : ∀ f ∈ sent, ∃ v, f = buildControl s.proto v
  timer : sent = [] → t.slotT.toNat + k = s.slotT.toNat

theorem StreamsOn.refl {s : State} (hq : s.seq = .streaming) (hloop : s.loop = true) : StreamsOn s s [] 0 :=
  ⟨hq, hloop, rfl, (List.append_nil _).symm, nofun, fun _ => rfl⟩

theorem StreamsOn.trans {s t u : State} {sent sent' : List Frame} {k k' : Nat} (h : StreamsOn s t sent k)
    (h' : StreamsOn t u sent' k') : StreamsOn s u (sent ++ sent') (k' + k) where
  seq := h'.seq
  loop := h'.loop
  proto := h'.proto.trans h.proto
  tx := by rw [h'.tx, h.tx, List.append_assoc]
  control := by
    intro f hf
    rcases List.mem_append.mp hf with hf | hf
    · exact h.control f hf
    · exact h.proto ▸ h'.control f hf
  timer := by
    intro hnil
    obtain ⟨hs, ht⟩ := List.append_eq_nil_iff.mp hnil
    rw [← h.timer hs, ← h'.timer ht, Nat.add_assoc]

/-- A control frame of the present registers. -/
theorem StreamsOn.of_frame {s t : State} (k : Nat) (hq : t.seq = .streaming) (hloop : t.loop = true)
    (hproto : t.proto = s.proto) (htx : t.tx = s.tx ++ [buildControl s.proto s.ch]) :
    StreamsOn s t [buildControl s.proto s.ch] k :=
  ⟨hq, hloop, hproto, htx, fun _ hf => ⟨s.ch, List.mem_singleton.mp hf⟩, nofun⟩

section

variable {s t : State} (hq : s.seq = .streaming) (hloop : s.loop = true)
include hq hloop

theorem streamsOn_tick (h0 : s.slotT ≠ 0) : ∃ sent, StreamsOn s s.tick sent 1 := by
  by_cases h1 : s.slotT = 1
  · rw [tick_of_streaming_loop h1 hq hloop]
    exact ⟨_, .of_frame 1 hq hloop rfl rfl⟩
  · rw [State.tick_counts h0 h1]
    exact ⟨[], hq, hloop, rfl, (List.append_nil _).symm, nofun, fun _ => (slotT_sub_one h0 h1).2⟩

theorem streamsOn_command {w : CmdWord} {i : Instr} (hd : decodeCommand w = .ok i)
    (hkeep : (Event.cmd w).keepsLoop = true) (h : CommandEffect s i t) : ∃ sent, StreamsOn s t sent 0 := by
  cases h with
  | responds | setch => exact ⟨[], hq, hloop, rfl, (List.append_nil _).symm, nofun, fun _ => rfl⟩
  | send => exact ⟨_, .of_frame 0 hq hloop rfl rfl⟩
  | selp hidle | start hidle => simp [hq] at hidle
  | loopon hne | loopoff hne => exact absurd hq hne
  | looponEmits _ hoff => simp [hloop] at hoff
  | loopoffStops | stop => simp [Event.keepsLoop, hd] at hkeep

theorem streamsOn_effect {e : Event} (h0 : s.slotT ≠ 0) (hkeep : e.keepsLoop = true) (h : StepEffect s e t) :
    ∃ sent, StreamsOn s t sent ([e].count .tick) := by
  cases h with
  | rst | txerr => cases hkeep
  | tick => exact streamsOn_tick hq hloop h0
  | illegal => exact ⟨[], hq, hloop, rfl, (List.append_nil _).symm, nofun, fun _ => rfl⟩
  | command hd h => exact streamsOn_command hq hloop hd hkeep h

end

/-- In STREAMING with the loop on the slot timer runs. -/
theorem slotT_ne_zero_of_loop {s : State} (h : Inv s) (hq : s.seq = .streaming) (hloop : s.loop = true) :
    s.slotT ≠ 0 :=
  h.timerRuns.mpr (.inr ⟨hq, hloop⟩)

theorem streamsOn_run {n : Nat} {s t : State} (h : Inv s) (hq : s.seq = .streaming) (hloop : s.loop = true)
    (hkeep : ∀ e ∈ s.inq.take n, e.keepsLoop = true) (hrun : Host.Core.run Sys2Proof.core n s = .next t) :
    ∃ sent, StreamsOn s t sent ((s.inq.take n).count .tick) := by
  induction n generalizing s with
  | zero =>
    rw [run_zero hrun]
    exact ⟨[], .refl hq hloop⟩
  | succ n ih =>
    obtain ⟨u, hstep, hrun⟩ := run_succ hrun
    match hinq : s.inq with
    | [] =>
      cases hstep.symm.trans (step_of_none hinq)
      simpa [hinq] using ih h hq hloop (by simp [hinq]) hrun
    | e :: rest =>
      rw [hinq, List.take_succ_cons] at hkeep
      obtain ⟨he, hrest⟩ := List.forall_mem_cons.mp hkeep
      have h0 := slotT_ne_zero_of_loop h hq hloop
      obtain ⟨sent, hone⟩ := streamsOn_effect (s := { s with inq := rest }) hq hloop h0 he
        (stepEffect_of_event hinq hstep)
      have hone : StreamsOn s u sent ([e].count .tick) := { hone with }
      obtain ⟨hu, -⟩ := outputsOfOneEvent s u e rest hinq hstep
      obtain ⟨sent', hmore⟩ := ih (stepKeepsTheInvariant s u h hstep) hone.seq hone.loop (hu ▸ hrest) hrun
      rw [hu] at hmore
      rw [List.take_succ_cons, ← List.singleton_append, List.count_append, Nat.add_comm]
      exact ⟨_, hone.trans hmore⟩

/-- Settles O46: had no frame left, the slot timer would have counted a whole period and still run. -/
theorem loopKeepsTheDeadline : Obligations.LoopKeepsTheDeadline := by
  intro n s t h hq hloop hkeep hrun
  obtain ⟨sent, hstream⟩ := streamsOn_run h hq hloop hkeep hrun
  obtain ⟨-, -, -, hperiod⟩ := h.legal
  refine ⟨hstream.seq, hstream.loop, hperiod, ⟨sent, hstream.tx, hstream.control⟩, fun hcount => ?_⟩
  have hsent : sent ≠ [] := by
    intro hnil
    have htimer := hstream.timer hnil
    have hmax := h.timerLoop hq
    have hruns := slotT_ne_zero_of_loop (run_keeps_inv h hrun) hstream.seq hstream.loop
    exact hruns (BitVec.eq_of_toNat_eq (show t.slotT.toNat = 0 by omega))
  rw [hstream.tx, List.length_append]
  exact Nat.lt_add_of_pos_right (List.length_pos_iff.mpr hsent)

end Sys2Proof.Proofs
